-- ==== Sys2Proof/Word.lean ====
section
/-! DEFINITION. The word types of the block (spec/00_scope.md R7, R8): a byte is 8 bits, bit 7 most significant. -/

namespace Sys2Proof

/-- R7: a byte, bit 7 most significant, bit 0 least significant. -/
abbrev Byte := BitVec 8

end Sys2Proof
end

