-- ==== Sys2Proof/Config.lean ====
section
/-! DEFINITION. What the block fixes: the parameters of spec/00_scope.md R6. No parameter is a free value: the
one open parameter, `P_REX_ORDER`, is a strap held in `State` (assumption 1), so that every statement about
every state holds for both of its values. -/

namespace Sys2Proof

/-- R6: the parameter `P_REX_ORDER`, how a REX byte followed by another prefix byte is treated (R103). -/
inductive RexOrder where
  | Architectural
  | DocLiteral
  deriving DecidableEq, Repr

/-- R6: `MAX_LEN`, the most bytes one instruction may have. -/
def Config.maxLen : Nat := 15

/-- R6: `MAX_OPS`, the operand slots of a record. -/
def Config.maxOps : Nat := 4

/-- R6: the default of `P_REX_ORDER`. -/
def Config.defaultRexOrder : RexOrder := .Architectural

end Sys2Proof
end

