-- ==== Sys2Proof/Syntax.lean ====
section
/-! DEFINITION. The instructions the block decodes, whole: one constructor of `Instr` per row of
spec/opcode_table.json (144), with the encoding fields of spec/30_encoding.md R70 as its arguments, and the closed
enumerations of spec/10_state.md R25 and R35 to R49 that the fields and the record use. -/

namespace Sys2Proof

/-- R6, R20: the operating width, an input of each transaction. -/
inductive Bitness where
  | b16
  | b32
  | b64
  deriving DecidableEq, Repr

/-- R36: the segment registers. -/
inductive SegReg where
  | ES | CS | SS | DS | FS | GS
  deriving DecidableEq, Repr

/-- R25: the values of `rep` other than None: the last of 0xF2, 0xF3 seen. -/
inductive Rep where
  | F2 | F3
  deriving DecidableEq, Repr

/-- R25: the encoding-space selector. -/
inductive Space where
  | Legacy | VEX2 | VEX3 | EVEX
  deriving DecidableEq, Repr

/-- R25, R76: the opcode maps. -/
inductive OpMap where
  | m0F | m0F38 | m0F3A
  deriving DecidableEq, Repr

/-- R25, R81: the mandatory prefix that is part of the opcode's identity; `NP` is none. -/
inductive Mp where
  | NP | P66 | PF3 | PF2
  deriving DecidableEq, Repr

/-- R35, R36: the classes of the registers an operand slot names. -/
inductive RegClass where
  | MM | XMM | YMM | ZMM
  deriving DecidableEq, Repr

/-- R35, R36: the register names a record reports, as class and folded index (R37). The fields `MemoryBase`,
`MemoryIndex`, `OpiRegister` are `Option Register`: None is a value the record has (R31, R32). -/
inductive Register where
  | gpr16 (i : BitVec 4)
  | gpr32 (i : BitVec 4)
  | gpr64 (i : BitVec 4)
  | mm (i : BitVec 3)
  | xmm (i : BitVec 5)
  | ymm (i : BitVec 5)
  | zmm (i : BitVec 5)
  | k (i : BitVec 3)
  | seg (s : SegReg)
  | rip
  | eip
  deriving DecidableEq, Repr

/-- R38: the operand kinds. -/
inductive OpKind where
  | Register | Memory | Immediate8
  deriving DecidableEq, Repr

/-- R39: the memory sizes; names are opaque (D26). -/
inductive MemorySize where
  | Unknown
  | Packed64_Int8 | Packed64_Int16 | Packed64_Int32
  | Packed128_Int8 | Packed128_Int16 | Packed128_UInt16 | Packed128_Int32 | Packed128_UInt32 | Packed128_Int64 | Packed128_UInt64
  | Packed256_Int8 | Packed256_Int16 | Packed256_UInt16 | Packed256_Int32 | Packed256_UInt32 | Packed256_Int64 | Packed256_UInt64
  | Packed512_Int8 | Packed512_Int16 | Packed512_UInt16 | Packed512_Int32 | Packed512_UInt32 | Packed512_Int64 | Packed512_UInt64
  | Broadcast128_Int32 | Broadcast128_UInt32 | Broadcast128_Int64 | Broadcast128_UInt64
  | Broadcast256_Int32 | Broadcast256_UInt32 | Broadcast256_Int64 | Broadcast256_UInt64
  | Broadcast512_Int32 | Broadcast512_UInt32 | Broadcast512_Int64 | Broadcast512_UInt64
  | UInt128 | UInt256 | UInt512
  deriving DecidableEq, Repr

/-- R40: the rounding controls. -/
inductive RoundingControl where
  | None | RoundToNearest | RoundDown | RoundUp | RoundTowardZero
  deriving DecidableEq, Repr

/-- R49: the decode errors. -/
inductive DecodeError where
  | UnexpectedEof | InstructionTooLong | UnknownOpcode | InvalidModRM | InvalidVexEvexEncoding
  deriving DecidableEq, Repr

/-- R47: the `Code` values, one per row of opcode_table.json. Names are opaque identifiers (R39, D26). -/
inductive Code where
  | Pshufw_mm_mmm64_imm8
  | Pshufd_xmm_xmmm128_imm8
  | Pshufhw_xmm_xmmm128_imm8
  | Pshuflw_xmm_xmmm128_imm8
  | Psrlw_mm_imm8
  | Psrlw_xmm_imm8
  | Psraw_mm_imm8
  | Psraw_xmm_imm8
  | Psllw_mm_imm8
  | Psllw_xmm_imm8
  | Psrld_mm_imm8
  | Psrld_xmm_imm8
  | Psrad_mm_imm8
  | Psrad_xmm_imm8
  | Pslld_mm_imm8
  | Pslld_xmm_imm8
  | Psrlq_mm_imm8
  | Psrlq_xmm_imm8
  | Psrldq_xmm_imm8
  | Psllq_mm_imm8
  | Psllq_xmm_imm8
  | Pslldq_xmm_imm8
  | Pcmpeqb_mm_mmm64
  | Pcmpeqb_xmm_xmmm128
  | Pcmpeqw_mm_mmm64
  | Pcmpeqw_xmm_xmmm128
  | Pcmpeqd_mm_mmm64
  | Pcmpeqd_xmm_xmmm128
  | Emms
  | VEX_Vpshufd_xmm_xmmm128_imm8
  | VEX_Vpshufd_ymm_ymmm256_imm8
  | VEX_Vpshufhw_xmm_xmmm128_imm8
  | VEX_Vpshufhw_ymm_ymmm256_imm8
  | VEX_Vpshuflw_xmm_xmmm128_imm8
  | VEX_Vpshuflw_ymm_ymmm256_imm8
  | VEX_Vpsrlw_xmm_xmm_imm8
  | VEX_Vpsrlw_ymm_ymm_imm8
  | VEX_Vpsraw_xmm_xmm_imm8
  | VEX_Vpsraw_ymm_ymm_imm8
  | VEX_Vpsllw_xmm_xmm_imm8
  | VEX_Vpsllw_ymm_ymm_imm8
  | VEX_Vpsrld_xmm_xmm_imm8
  | VEX_Vpsrld_ymm_ymm_imm8
  | VEX_Vpsrad_xmm_xmm_imm8
  | VEX_Vpsrad_ymm_ymm_imm8
  | VEX_Vpslld_xmm_xmm_imm8
  | VEX_Vpslld_ymm_ymm_imm8
  | VEX_Vpsrlq_xmm_xmm_imm8
  | VEX_Vpsrlq_ymm_ymm_imm8
  | VEX_Vpsrldq_xmm_xmm_imm8
  | VEX_Vpsrldq_ymm_ymm_imm8
  | VEX_Vpsllq_xmm_xmm_imm8
  | VEX_Vpsllq_ymm_ymm_imm8
  | VEX_Vpslldq_xmm_xmm_imm8
  | VEX_Vpslldq_ymm_ymm_imm8
  | VEX_Vpcmpeqb_xmm_xmm_xmmm128
  | VEX_Vpcmpeqb_ymm_ymm_ymmm256
  | VEX_Vpcmpeqw_xmm_xmm_xmmm128
  | VEX_Vpcmpeqw_ymm_ymm_ymmm256
  | VEX_Vpcmpeqd_xmm_xmm_xmmm128
  | VEX_Vpcmpeqd_ymm_ymm_ymmm256
  | VEX_Vzeroupper
  | VEX_Vzeroall
  | EVEX_Vpshufd_xmm_k1z_xmmm128b32_imm8
  | EVEX_Vpshufd_ymm_k1z_ymmm256b32_imm8
  | EVEX_Vpshufd_zmm_k1z_zmmm512b32_imm8
  | EVEX_Vpshufhw_xmm_k1z_xmmm128_imm8
  | EVEX_Vpshufhw_ymm_k1z_ymmm256_imm8
  | EVEX_Vpshufhw_zmm_k1z_zmmm512_imm8
  | EVEX_Vpshuflw_xmm_k1z_xmmm128_imm8
  | EVEX_Vpshuflw_ymm_k1z_ymmm256_imm8
  | EVEX_Vpshuflw_zmm_k1z_zmmm512_imm8
  | EVEX_Vpsrlw_xmm_k1z_xmmm128_imm8
  | EVEX_Vpsrlw_ymm_k1z_ymmm256_imm8
  | EVEX_Vpsrlw_zmm_k1z_zmmm512_imm8
  | EVEX_Vpsraw_xmm_k1z_xmmm128_imm8
  | EVEX_Vpsraw_ymm_k1z_ymmm256_imm8
  | EVEX_Vpsraw_zmm_k1z_zmmm512_imm8
  | EVEX_Vpsllw_xmm_k1z_xmmm128_imm8
  | EVEX_Vpsllw_ymm_k1z_ymmm256_imm8
  | EVEX_Vpsllw_zmm_k1z_zmmm512_imm8
  | EVEX_Vprord_xmm_k1z_xmmm128b32_imm8
  | EVEX_Vprord_ymm_k1z_ymmm256b32_imm8
  | EVEX_Vprord_zmm_k1z_zmmm512b32_imm8
  | EVEX_Vprorq_xmm_k1z_xmmm128b64_imm8
  | EVEX_Vprorq_ymm_k1z_ymmm256b64_imm8
  | EVEX_Vprorq_zmm_k1z_zmmm512b64_imm8
  | EVEX_Vprold_xmm_k1z_xmmm128b32_imm8
  | EVEX_Vprold_ymm_k1z_ymmm256b32_imm8
  | EVEX_Vprold_zmm_k1z_zmmm512b32_imm8
  | EVEX_Vprolq_xmm_k1z_xmmm128b64_imm8
  | EVEX_Vprolq_ymm_k1z_ymmm256b64_imm8
  | EVEX_Vprolq_zmm_k1z_zmmm512b64_imm8
  | EVEX_Vpsrld_xmm_k1z_xmmm128b32_imm8
  | EVEX_Vpsrld_ymm_k1z_ymmm256b32_imm8
  | EVEX_Vpsrld_zmm_k1z_zmmm512b32_imm8
  | EVEX_Vpsrad_xmm_k1z_xmmm128b32_imm8
  | EVEX_Vpsrad_ymm_k1z_ymmm256b32_imm8
  | EVEX_Vpsrad_zmm_k1z_zmmm512b32_imm8
  | EVEX_Vpsraq_xmm_k1z_xmmm128b64_imm8
  | EVEX_Vpsraq_ymm_k1z_ymmm256b64_imm8
  | EVEX_Vpsraq_zmm_k1z_zmmm512b64_imm8
  | EVEX_Vpslld_xmm_k1z_xmmm128b32_imm8
  | EVEX_Vpslld_ymm_k1z_ymmm256b32_imm8
  | EVEX_Vpslld_zmm_k1z_zmmm512b32_imm8
  | EVEX_Vpsrlq_xmm_k1z_xmmm128b64_imm8
  | EVEX_Vpsrlq_ymm_k1z_ymmm256b64_imm8
  | EVEX_Vpsrlq_zmm_k1z_zmmm512b64_imm8
  | EVEX_Vpsrldq_xmm_xmmm128_imm8
  | EVEX_Vpsrldq_ymm_ymmm256_imm8
  | EVEX_Vpsrldq_zmm_zmmm512_imm8
  | EVEX_Vpsllq_xmm_k1z_xmmm128b64_imm8
  | EVEX_Vpsllq_ymm_k1z_ymmm256b64_imm8
  | EVEX_Vpsllq_zmm_k1z_zmmm512b64_imm8
  | EVEX_Vpslldq_xmm_xmmm128_imm8
  | EVEX_Vpslldq_ymm_ymmm256_imm8
  | EVEX_Vpslldq_zmm_zmmm512_imm8
  | EVEX_Vpcmpeqb_kr_k1_xmm_xmmm128
  | EVEX_Vpcmpeqb_kr_k1_ymm_ymmm256
  | EVEX_Vpcmpeqb_kr_k1_zmm_zmmm512
  | EVEX_Vpcmpeqw_kr_k1_xmm_xmmm128
  | EVEX_Vpcmpeqw_kr_k1_ymm_ymmm256
  | EVEX_Vpcmpeqw_kr_k1_zmm_zmmm512
  | EVEX_Vpcmpeqd_kr_k1_xmm_xmmm128b32
  | EVEX_Vpcmpeqd_kr_k1_ymm_ymmm256b32
  | EVEX_Vpcmpeqd_kr_k1_zmm_zmmm512b32
  | EVEX_Vpshldw_xmm_k1z_xmm_xmmm128_imm8
  | EVEX_Vpshldw_ymm_k1z_ymm_ymmm256_imm8
  | EVEX_Vpshldw_zmm_k1z_zmm_zmmm512_imm8
  | EVEX_Vpshldd_xmm_k1z_xmm_xmmm128b32_imm8
  | EVEX_Vpshldd_ymm_k1z_ymm_ymmm256b32_imm8
  | EVEX_Vpshldd_zmm_k1z_zmm_zmmm512b32_imm8
  | EVEX_Vpshldq_xmm_k1z_xmm_xmmm128b64_imm8
  | EVEX_Vpshldq_ymm_k1z_ymm_ymmm256b64_imm8
  | EVEX_Vpshldq_zmm_k1z_zmm_zmmm512b64_imm8
  | EVEX_Vpshrdw_xmm_k1z_xmm_xmmm128_imm8
  | EVEX_Vpshrdw_ymm_k1z_ymm_ymmm256_imm8
  | EVEX_Vpshrdw_zmm_k1z_zmm_zmmm512_imm8
  | EVEX_Vpshrdd_xmm_k1z_xmm_xmmm128b32_imm8
  | EVEX_Vpshrdd_ymm_k1z_ymm_ymmm256b32_imm8
  | EVEX_Vpshrdd_zmm_k1z_zmm_zmmm512b32_imm8
  | EVEX_Vpshrdq_xmm_k1z_xmm_xmmm128b64_imm8
  | EVEX_Vpshrdq_ymm_k1z_ymm_ymmm256b64_imm8
  | EVEX_Vpshrdq_zmm_k1z_zmm_zmmm512b64_imm8
  deriving DecidableEq, Repr

/-- R70, R71: the prefixes of a legacy instruction, normalised as in R25: of each category (R102) the last one, and the
REX byte's low four bits `W R X B` (R72) where a REX byte stands immediately before the opcode. -/
structure LegacyPrefix where
  seg : Option SegReg
  opsize : Bool
  adsize : Bool
  lock : Bool
  rep : Option Rep
  rex : Option (BitVec 4)
  deriving DecidableEq, Repr

/-- No prefix at all. -/
def LegacyPrefix.none : LegacyPrefix :=
  { seg := .none, opsize := false, adsize := false, lock := false, rep := .none, rex := .none }

/-- R73, R74: the prefixes of a VEX instruction: a segment prefix and 0x67 may precede the escape (R110); `three` says
the three-byte form; the fields are in true sense (R25), `vvvv` as stored before the masking of R117. -/
structure VexPrefix where
  seg : Option SegReg
  adsize : Bool
  three : Bool
  W : Bool
  R : Bool
  X : Bool
  B : Bool
  vvvv : BitVec 4
  deriving DecidableEq, Repr

/-- The two-byte form with every extension field 0. -/
def VexPrefix.none : VexPrefix :=
  { seg := .none, adsize := false, three := false, W := false, R := false, X := false, B := false, vvvv := 0 }

/-- R75: the prefixes of an EVEX instruction; the fields are in true sense (R25), `vvvv` and `Vp` as stored before the
masking of R117. -/
structure EvexPrefix where
  seg : Option SegReg
  adsize : Bool
  W : Bool
  R : Bool
  X : Bool
  B : Bool
  Rp : Bool
  Vp : Bool
  vvvv : BitVec 4
  z : Bool
  b : Bool
  aaa : BitVec 3
  deriving DecidableEq, Repr

/-- Every field 0. -/
def EvexPrefix.none : EvexPrefix :=
  { seg := .none, adsize := false, W := false, R := false, X := false, B := false, Rp := false, Vp := false, vvvv := 0,
    z := false, b := false, aaa := 0 }

/-- R79: a displacement as encoded: 0, 1, 2 or 4 bytes. -/
inductive Disp where
  | none
  | d8 (v : BitVec 8)
  | d16 (v : BitVec 16)
  | d32 (v : BitVec 32)
  deriving DecidableEq, Repr

/-- R77 to R79: the operand that ModRM.rm names: a register (mod = 11) or memory, with the SIB byte and the
displacement that follow. -/
inductive RMOperand where
  | reg (rm : BitVec 3)
  | mem (mod : BitVec 2) (rm : BitVec 3) (sib : Option Byte) (disp : Disp)
  deriving DecidableEq, Repr

/-- The three bits of ModRM.rm. -/
def RMOperand.field : RMOperand → BitVec 3
  | .reg rm => rm
  | .mem _ rm _ _ => rm

/-- mod = 11 (R77, R182). -/
def RMOperand.isReg : RMOperand → Bool
  | .reg _ => true
  | .mem _ _ _ _ => false

/-- One decoded instruction: one constructor per row of opcode_table.json (R141), named by the row's Code, with the
encoding fields that R70 gives the row: the prefixes and VEX/EVEX fields, the ModRM `reg` field where it names a register,
the `rm` operand (a bare 3-bit register field for the register-only rows of R153) and the imm8. The vector length
(L, L'L), the mandatory prefix of a VEX/EVEX form and a group digit are part of the constructor. -/
inductive Instr where
  | Pshufw_mm_mmm64_imm8 (p : LegacyPrefix) (reg : BitVec 3) (rm : RMOperand) (ib : Byte)
  | Pshufd_xmm_xmmm128_imm8 (p : LegacyPrefix) (reg : BitVec 3) (rm : RMOperand) (ib : Byte)
  | Pshufhw_xmm_xmmm128_imm8 (p : LegacyPrefix) (reg : BitVec 3) (rm : RMOperand) (ib : Byte)
  | Pshuflw_xmm_xmmm128_imm8 (p : LegacyPrefix) (reg : BitVec 3) (rm : RMOperand) (ib : Byte)
  | Psrlw_mm_imm8 (p : LegacyPrefix) (rm : BitVec 3) (ib : Byte)
  | Psrlw_xmm_imm8 (p : LegacyPrefix) (rm : BitVec 3) (ib : Byte)
  | Psraw_mm_imm8 (p : LegacyPrefix) (rm : BitVec 3) (ib : Byte)
  | Psraw_xmm_imm8 (p : LegacyPrefix) (rm : BitVec 3) (ib : Byte)
  | Psllw_mm_imm8 (p : LegacyPrefix) (rm : BitVec 3) (ib : Byte)
  | Psllw_xmm_imm8 (p : LegacyPrefix) (rm : BitVec 3) (ib : Byte)
  | Psrld_mm_imm8 (p : LegacyPrefix) (rm : BitVec 3) (ib : Byte)
  | Psrld_xmm_imm8 (p : LegacyPrefix) (rm : BitVec 3) (ib : Byte)
  | Psrad_mm_imm8 (p : LegacyPrefix) (rm : BitVec 3) (ib : Byte)
  | Psrad_xmm_imm8 (p : LegacyPrefix) (rm : BitVec 3) (ib : Byte)
  | Pslld_mm_imm8 (p : LegacyPrefix) (rm : BitVec 3) (ib : Byte)
  | Pslld_xmm_imm8 (p : LegacyPrefix) (rm : BitVec 3) (ib : Byte)
  | Psrlq_mm_imm8 (p : LegacyPrefix) (rm : BitVec 3) (ib : Byte)
  | Psrlq_xmm_imm8 (p : LegacyPrefix) (rm : BitVec 3) (ib : Byte)
  | Psrldq_xmm_imm8 (p : LegacyPrefix) (rm : BitVec 3) (ib : Byte)
  | Psllq_mm_imm8 (p : LegacyPrefix) (rm : BitVec 3) (ib : Byte)
  | Psllq_xmm_imm8 (p : LegacyPrefix) (rm : BitVec 3) (ib : Byte)
  | Pslldq_xmm_imm8 (p : LegacyPrefix) (rm : BitVec 3) (ib : Byte)
  | Pcmpeqb_mm_mmm64 (p : LegacyPrefix) (reg : BitVec 3) (rm : RMOperand)
  | Pcmpeqb_xmm_xmmm128 (p : LegacyPrefix) (reg : BitVec 3) (rm : RMOperand)
  | Pcmpeqw_mm_mmm64 (p : LegacyPrefix) (reg : BitVec 3) (rm : RMOperand)
  | Pcmpeqw_xmm_xmmm128 (p : LegacyPrefix) (reg : BitVec 3) (rm : RMOperand)
  | Pcmpeqd_mm_mmm64 (p : LegacyPrefix) (reg : BitVec 3) (rm : RMOperand)
  | Pcmpeqd_xmm_xmmm128 (p : LegacyPrefix) (reg : BitVec 3) (rm : RMOperand)
  | Emms (p : LegacyPrefix)
  | VEX_Vpshufd_xmm_xmmm128_imm8 (p : VexPrefix) (reg : BitVec 3) (rm : RMOperand) (ib : Byte)
  | VEX_Vpshufd_ymm_ymmm256_imm8 (p : VexPrefix) (reg : BitVec 3) (rm : RMOperand) (ib : Byte)
  | VEX_Vpshufhw_xmm_xmmm128_imm8 (p : VexPrefix) (reg : BitVec 3) (rm : RMOperand) (ib : Byte)
  | VEX_Vpshufhw_ymm_ymmm256_imm8 (p : VexPrefix) (reg : BitVec 3) (rm : RMOperand) (ib : Byte)
  | VEX_Vpshuflw_xmm_xmmm128_imm8 (p : VexPrefix) (reg : BitVec 3) (rm : RMOperand) (ib : Byte)
  | VEX_Vpshuflw_ymm_ymmm256_imm8 (p : VexPrefix) (reg : BitVec 3) (rm : RMOperand) (ib : Byte)
  | VEX_Vpsrlw_xmm_xmm_imm8 (p : VexPrefix) (rm : BitVec 3) (ib : Byte)
  | VEX_Vpsrlw_ymm_ymm_imm8 (p : VexPrefix) (rm : BitVec 3) (ib : Byte)
  | VEX_Vpsraw_xmm_xmm_imm8 (p : VexPrefix) (rm : BitVec 3) (ib : Byte)
  | VEX_Vpsraw_ymm_ymm_imm8 (p : VexPrefix) (rm : BitVec 3) (ib : Byte)
  | VEX_Vpsllw_xmm_xmm_imm8 (p : VexPrefix) (rm : BitVec 3) (ib : Byte)
  | VEX_Vpsllw_ymm_ymm_imm8 (p : VexPrefix) (rm : BitVec 3) (ib : Byte)
  | VEX_Vpsrld_xmm_xmm_imm8 (p : VexPrefix) (rm : BitVec 3) (ib : Byte)
  | VEX_Vpsrld_ymm_ymm_imm8 (p : VexPrefix) (rm : BitVec 3) (ib : Byte)
  | VEX_Vpsrad_xmm_xmm_imm8 (p : VexPrefix) (rm : BitVec 3) (ib : Byte)
  | VEX_Vpsrad_ymm_ymm_imm8 (p : VexPrefix) (rm : BitVec 3) (ib : Byte)
  | VEX_Vpslld_xmm_xmm_imm8 (p : VexPrefix) (rm : BitVec 3) (ib : Byte)
  | VEX_Vpslld_ymm_ymm_imm8 (p : VexPrefix) (rm : BitVec 3) (ib : Byte)
  | VEX_Vpsrlq_xmm_xmm_imm8 (p : VexPrefix) (rm : BitVec 3) (ib : Byte)
  | VEX_Vpsrlq_ymm_ymm_imm8 (p : VexPrefix) (rm : BitVec 3) (ib : Byte)
  | VEX_Vpsrldq_xmm_xmm_imm8 (p : VexPrefix) (rm : BitVec 3) (ib : Byte)
  | VEX_Vpsrldq_ymm_ymm_imm8 (p : VexPrefix) (rm : BitVec 3) (ib : Byte)
  | VEX_Vpsllq_xmm_xmm_imm8 (p : VexPrefix) (rm : BitVec 3) (ib : Byte)
  | VEX_Vpsllq_ymm_ymm_imm8 (p : VexPrefix) (rm : BitVec 3) (ib : Byte)
  | VEX_Vpslldq_xmm_xmm_imm8 (p : VexPrefix) (rm : BitVec 3) (ib : Byte)
  | VEX_Vpslldq_ymm_ymm_imm8 (p : VexPrefix) (rm : BitVec 3) (ib : Byte)
  | VEX_Vpcmpeqb_xmm_xmm_xmmm128 (p : VexPrefix) (reg : BitVec 3) (rm : RMOperand)
  | VEX_Vpcmpeqb_ymm_ymm_ymmm256 (p : VexPrefix) (reg : BitVec 3) (rm : RMOperand)
  | VEX_Vpcmpeqw_xmm_xmm_xmmm128 (p : VexPrefix) (reg : BitVec 3) (rm : RMOperand)
  | VEX_Vpcmpeqw_ymm_ymm_ymmm256 (p : VexPrefix) (reg : BitVec 3) (rm : RMOperand)
  | VEX_Vpcmpeqd_xmm_xmm_xmmm128 (p : VexPrefix) (reg : BitVec 3) (rm : RMOperand)
  | VEX_Vpcmpeqd_ymm_ymm_ymmm256 (p : VexPrefix) (reg : BitVec 3) (rm : RMOperand)
  | VEX_Vzeroupper (p : VexPrefix)
  | VEX_Vzeroall (p : VexPrefix)
  | EVEX_Vpshufd_xmm_k1z_xmmm128b32_imm8 (p : EvexPrefix) (reg : BitVec 3) (rm : RMOperand) (ib : Byte)
  | EVEX_Vpshufd_ymm_k1z_ymmm256b32_imm8 (p : EvexPrefix) (reg : BitVec 3) (rm : RMOperand) (ib : Byte)
  | EVEX_Vpshufd_zmm_k1z_zmmm512b32_imm8 (p : EvexPrefix) (reg : BitVec 3) (rm : RMOperand) (ib : Byte)
  | EVEX_Vpshufhw_xmm_k1z_xmmm128_imm8 (p : EvexPrefix) (reg : BitVec 3) (rm : RMOperand) (ib : Byte)
  | EVEX_Vpshufhw_ymm_k1z_ymmm256_imm8 (p : EvexPrefix) (reg : BitVec 3) (rm : RMOperand) (ib : Byte)
  | EVEX_Vpshufhw_zmm_k1z_zmmm512_imm8 (p : EvexPrefix) (reg : BitVec 3) (rm : RMOperand) (ib : Byte)
  | EVEX_Vpshuflw_xmm_k1z_xmmm128_imm8 (p : EvexPrefix) (reg : BitVec 3) (rm : RMOperand) (ib : Byte)
  | EVEX_Vpshuflw_ymm_k1z_ymmm256_imm8 (p : EvexPrefix) (reg : BitVec 3) (rm : RMOperand) (ib : Byte)
  | EVEX_Vpshuflw_zmm_k1z_zmmm512_imm8 (p : EvexPrefix) (reg : BitVec 3) (rm : RMOperand) (ib : Byte)
  | EVEX_Vpsrlw_xmm_k1z_xmmm128_imm8 (p : EvexPrefix) (rm : RMOperand) (ib : Byte)
  | EVEX_Vpsrlw_ymm_k1z_ymmm256_imm8 (p : EvexPrefix) (rm : RMOperand) (ib : Byte)
  | EVEX_Vpsrlw_zmm_k1z_zmmm512_imm8 (p : EvexPrefix) (rm : RMOperand) (ib : Byte)
  | EVEX_Vpsraw_xmm_k1z_xmmm128_imm8 (p : EvexPrefix) (rm : RMOperand) (ib : Byte)
  | EVEX_Vpsraw_ymm_k1z_ymmm256_imm8 (p : EvexPrefix) (rm : RMOperand) (ib : Byte)
  | EVEX_Vpsraw_zmm_k1z_zmmm512_imm8 (p : EvexPrefix) (rm : RMOperand) (ib : Byte)
  | EVEX_Vpsllw_xmm_k1z_xmmm128_imm8 (p : EvexPrefix) (rm : RMOperand) (ib : Byte)
  | EVEX_Vpsllw_ymm_k1z_ymmm256_imm8 (p : EvexPrefix) (rm : RMOperand) (ib : Byte)
  | EVEX_Vpsllw_zmm_k1z_zmmm512_imm8 (p : EvexPrefix) (rm : RMOperand) (ib : Byte)
  | EVEX_Vprord_xmm_k1z_xmmm128b32_imm8 (p : EvexPrefix) (rm : RMOperand) (ib : Byte)
  | EVEX_Vprord_ymm_k1z_ymmm256b32_imm8 (p : EvexPrefix) (rm : RMOperand) (ib : Byte)
  | EVEX_Vprord_zmm_k1z_zmmm512b32_imm8 (p : EvexPrefix) (rm : RMOperand) (ib : Byte)
  | EVEX_Vprorq_xmm_k1z_xmmm128b64_imm8 (p : EvexPrefix) (rm : RMOperand) (ib : Byte)
  | EVEX_Vprorq_ymm_k1z_ymmm256b64_imm8 (p : EvexPrefix) (rm : RMOperand) (ib : Byte)
  | EVEX_Vprorq_zmm_k1z_zmmm512b64_imm8 (p : EvexPrefix) (rm : RMOperand) (ib : Byte)
  | EVEX_Vprold_xmm_k1z_xmmm128b32_imm8 (p : EvexPrefix) (rm : RMOperand) (ib : Byte)
  | EVEX_Vprold_ymm_k1z_ymmm256b32_imm8 (p : EvexPrefix) (rm : RMOperand) (ib : Byte)
  | EVEX_Vprold_zmm_k1z_zmmm512b32_imm8 (p : EvexPrefix) (rm : RMOperand) (ib : Byte)
  | EVEX_Vprolq_xmm_k1z_xmmm128b64_imm8 (p : EvexPrefix) (rm : RMOperand) (ib : Byte)
  | EVEX_Vprolq_ymm_k1z_ymmm256b64_imm8 (p : EvexPrefix) (rm : RMOperand) (ib : Byte)
  | EVEX_Vprolq_zmm_k1z_zmmm512b64_imm8 (p : EvexPrefix) (rm : RMOperand) (ib : Byte)
  | EVEX_Vpsrld_xmm_k1z_xmmm128b32_imm8 (p : EvexPrefix) (rm : RMOperand) (ib : Byte)
  | EVEX_Vpsrld_ymm_k1z_ymmm256b32_imm8 (p : EvexPrefix) (rm : RMOperand) (ib : Byte)
  | EVEX_Vpsrld_zmm_k1z_zmmm512b32_imm8 (p : EvexPrefix) (rm : RMOperand) (ib : Byte)
  | EVEX_Vpsrad_xmm_k1z_xmmm128b32_imm8 (p : EvexPrefix) (rm : RMOperand) (ib : Byte)
  | EVEX_Vpsrad_ymm_k1z_ymmm256b32_imm8 (p : EvexPrefix) (rm : RMOperand) (ib : Byte)
  | EVEX_Vpsrad_zmm_k1z_zmmm512b32_imm8 (p : EvexPrefix) (rm : RMOperand) (ib : Byte)
  | EVEX_Vpsraq_xmm_k1z_xmmm128b64_imm8 (p : EvexPrefix) (rm : RMOperand) (ib : Byte)
  | EVEX_Vpsraq_ymm_k1z_ymmm256b64_imm8 (p : EvexPrefix) (rm : RMOperand) (ib : Byte)
  | EVEX_Vpsraq_zmm_k1z_zmmm512b64_imm8 (p : EvexPrefix) (rm : RMOperand) (ib : Byte)
  | EVEX_Vpslld_xmm_k1z_xmmm128b32_imm8 (p : EvexPrefix) (rm : RMOperand) (ib : Byte)
  | EVEX_Vpslld_ymm_k1z_ymmm256b32_imm8 (p : EvexPrefix) (rm : RMOperand) (ib : Byte)
  | EVEX_Vpslld_zmm_k1z_zmmm512b32_imm8 (p : EvexPrefix) (rm : RMOperand) (ib : Byte)
  | EVEX_Vpsrlq_xmm_k1z_xmmm128b64_imm8 (p : EvexPrefix) (rm : RMOperand) (ib : Byte)
  | EVEX_Vpsrlq_ymm_k1z_ymmm256b64_imm8 (p : EvexPrefix) (rm : RMOperand) (ib : Byte)
  | EVEX_Vpsrlq_zmm_k1z_zmmm512b64_imm8 (p : EvexPrefix) (rm : RMOperand) (ib : Byte)
  | EVEX_Vpsrldq_xmm_xmmm128_imm8 (p : EvexPrefix) (rm : RMOperand) (ib : Byte)
  | EVEX_Vpsrldq_ymm_ymmm256_imm8 (p : EvexPrefix) (rm : RMOperand) (ib : Byte)
  | EVEX_Vpsrldq_zmm_zmmm512_imm8 (p : EvexPrefix) (rm : RMOperand) (ib : Byte)
  | EVEX_Vpsllq_xmm_k1z_xmmm128b64_imm8 (p : EvexPrefix) (rm : RMOperand) (ib : Byte)
  | EVEX_Vpsllq_ymm_k1z_ymmm256b64_imm8 (p : EvexPrefix) (rm : RMOperand) (ib : Byte)
  | EVEX_Vpsllq_zmm_k1z_zmmm512b64_imm8 (p : EvexPrefix) (rm : RMOperand) (ib : Byte)
  | EVEX_Vpslldq_xmm_xmmm128_imm8 (p : EvexPrefix) (rm : RMOperand) (ib : Byte)
  | EVEX_Vpslldq_ymm_ymmm256_imm8 (p : EvexPrefix) (rm : RMOperand) (ib : Byte)
  | EVEX_Vpslldq_zmm_zmmm512_imm8 (p : EvexPrefix) (rm : RMOperand) (ib : Byte)
  | EVEX_Vpcmpeqb_kr_k1_xmm_xmmm128 (p : EvexPrefix) (reg : BitVec 3) (rm : RMOperand)
  | EVEX_Vpcmpeqb_kr_k1_ymm_ymmm256 (p : EvexPrefix) (reg : BitVec 3) (rm : RMOperand)
  | EVEX_Vpcmpeqb_kr_k1_zmm_zmmm512 (p : EvexPrefix) (reg : BitVec 3) (rm : RMOperand)
  | EVEX_Vpcmpeqw_kr_k1_xmm_xmmm128 (p : EvexPrefix) (reg : BitVec 3) (rm : RMOperand)
  | EVEX_Vpcmpeqw_kr_k1_ymm_ymmm256 (p : EvexPrefix) (reg : BitVec 3) (rm : RMOperand)
  | EVEX_Vpcmpeqw_kr_k1_zmm_zmmm512 (p : EvexPrefix) (reg : BitVec 3) (rm : RMOperand)
  | EVEX_Vpcmpeqd_kr_k1_xmm_xmmm128b32 (p : EvexPrefix) (reg : BitVec 3) (rm : RMOperand)
  | EVEX_Vpcmpeqd_kr_k1_ymm_ymmm256b32 (p : EvexPrefix) (reg : BitVec 3) (rm : RMOperand)
  | EVEX_Vpcmpeqd_kr_k1_zmm_zmmm512b32 (p : EvexPrefix) (reg : BitVec 3) (rm : RMOperand)
  | EVEX_Vpshldw_xmm_k1z_xmm_xmmm128_imm8 (p : EvexPrefix) (reg : BitVec 3) (rm : RMOperand) (ib : Byte)
  | EVEX_Vpshldw_ymm_k1z_ymm_ymmm256_imm8 (p : EvexPrefix) (reg : BitVec 3) (rm : RMOperand) (ib : Byte)
  | EVEX_Vpshldw_zmm_k1z_zmm_zmmm512_imm8 (p : EvexPrefix) (reg : BitVec 3) (rm : RMOperand) (ib : Byte)
  | EVEX_Vpshldd_xmm_k1z_xmm_xmmm128b32_imm8 (p : EvexPrefix) (reg : BitVec 3) (rm : RMOperand) (ib : Byte)
  | EVEX_Vpshldd_ymm_k1z_ymm_ymmm256b32_imm8 (p : EvexPrefix) (reg : BitVec 3) (rm : RMOperand) (ib : Byte)
  | EVEX_Vpshldd_zmm_k1z_zmm_zmmm512b32_imm8 (p : EvexPrefix) (reg : BitVec 3) (rm : RMOperand) (ib : Byte)
  | EVEX_Vpshldq_xmm_k1z_xmm_xmmm128b64_imm8 (p : EvexPrefix) (reg : BitVec 3) (rm : RMOperand) (ib : Byte)
  | EVEX_Vpshldq_ymm_k1z_ymm_ymmm256b64_imm8 (p : EvexPrefix) (reg : BitVec 3) (rm : RMOperand) (ib : Byte)
  | EVEX_Vpshldq_zmm_k1z_zmm_zmmm512b64_imm8 (p : EvexPrefix) (reg : BitVec 3) (rm : RMOperand) (ib : Byte)
  | EVEX_Vpshrdw_xmm_k1z_xmm_xmmm128_imm8 (p : EvexPrefix) (reg : BitVec 3) (rm : RMOperand) (ib : Byte)
  | EVEX_Vpshrdw_ymm_k1z_ymm_ymmm256_imm8 (p : EvexPrefix) (reg : BitVec 3) (rm : RMOperand) (ib : Byte)
  | EVEX_Vpshrdw_zmm_k1z_zmm_zmmm512_imm8 (p : EvexPrefix) (reg : BitVec 3) (rm : RMOperand) (ib : Byte)
  | EVEX_Vpshrdd_xmm_k1z_xmm_xmmm128b32_imm8 (p : EvexPrefix) (reg : BitVec 3) (rm : RMOperand) (ib : Byte)
  | EVEX_Vpshrdd_ymm_k1z_ymm_ymmm256b32_imm8 (p : EvexPrefix) (reg : BitVec 3) (rm : RMOperand) (ib : Byte)
  | EVEX_Vpshrdd_zmm_k1z_zmm_zmmm512b32_imm8 (p : EvexPrefix) (reg : BitVec 3) (rm : RMOperand) (ib : Byte)
  | EVEX_Vpshrdq_xmm_k1z_xmm_xmmm128b64_imm8 (p : EvexPrefix) (reg : BitVec 3) (rm : RMOperand) (ib : Byte)
  | EVEX_Vpshrdq_ymm_k1z_ymm_ymmm256b64_imm8 (p : EvexPrefix) (reg : BitVec 3) (rm : RMOperand) (ib : Byte)
  | EVEX_Vpshrdq_zmm_k1z_zmm_zmmm512b64_imm8 (p : EvexPrefix) (reg : BitVec 3) (rm : RMOperand) (ib : Byte)
  deriving DecidableEq, Repr

/-- The operand fields of an instruction, whatever its row; `build` takes those the row has. -/
structure Bundle where
  legacy : LegacyPrefix
  vex : VexPrefix
  evex : EvexPrefix
  reg : BitVec 3
  rm : RMOperand
  imm : Byte
  deriving DecidableEq, Repr

/-- A bundle with every field at its "absent" value. -/
def Bundle.empty : Bundle :=
  { legacy := LegacyPrefix.none, vex := VexPrefix.none, evex := EvexPrefix.none, reg := 0, rm := .reg 0, imm := 0 }

end Sys2Proof
end

