-- ==== Sys2Proof/Machine/Regs.lean ====
section
/-! DEFINITION. The types of the block's internal registers (spec/10_state.md R24 to R29) and of the record it produces
(R30 to R34), with their initial values (R25, R46, R48). Single bits are `Bool`, in true sense (R25). -/

namespace Sys2Proof.Machine

open Sys2Proof

/-- R25: the prefix-state register `ps`. `Rp`, `Vp` are the spec's R', V'; `vvvvRaw`, `VpRaw` the copies before the
masking of R117. -/
structure PrefixState where
  seg : Option SegReg
  opsize : Bool
  adsize : Bool
  lock : Bool
  rep : Option Rep
  rex : Option Byte
  space : Space
  W : Bool
  R : Bool
  X : Bool
  B : Bool
  Rp : Bool
  Vp : Bool
  vvvv : BitVec 4
  vvvvRaw : BitVec 4
  VpRaw : Bool
  L : Bool
  LL : BitVec 2
  pp : BitVec 2
  z : Bool
  b : Bool
  aaa : BitVec 3
  map : Option OpMap
  mp : Mp
  deriving DecidableEq, Repr

/-- R25: the initial value of `ps`. -/
def PrefixState.initial : PrefixState :=
  { seg := none, opsize := false, adsize := false, lock := false, rep := none, rex := none, space := .Legacy,
    W := false, R := false, X := false, B := false, Rp := false, Vp := false, vvvv := 0, vvvvRaw := 0, VpRaw := false,
    L := false, LL := 0, pp := 0, z := false, b := false, aaa := 0, map := none, mp := .NP }

/-- R151: the address sizes. -/
inductive AddrSize where
  | a16 | a32 | a64
  deriving DecidableEq, Repr

/-- R28: the memory-operand working register `md`. -/
structure MemWork where
  as : AddrSize
  base : Option Register
  index : Option Register
  scale : Nat
  deriving DecidableEq, Repr

/-- R29: the vector-field working register `vf`. -/
structure VectorFields where
  vl : Nat
  rc : RoundingControl
  sae : Bool
  opmask : Option Register
  zeroing : Bool
  bcst : Bool
  n : Nat
  deriving DecidableEq, Repr

/-- R29: the initial value of `vf`. -/
def VectorFields.initial : VectorFields :=
  { vl := 0, rc := .None, sae := false, opmask := none, zeroing := false, bcst := false, n := 1 }

/-- R24, R26 to R28: the cursor, prefix-state, opcode and operand-byte registers. `pos` is 0 to 15 (R8: a length is a
`Fin 16`). `entry` and `fam` list Codes: `entry`
the rows whose key matches (R132), `fam` the rows of the selected family, one per vector length (R139). -/
structure Regs where
  pos : Fin 16
  ps : PrefixState
  b0 : Option Byte
  opc : Option Byte
  entry : Option (List Code)
  fam : Option (List Code)
  modrm : Option Byte
  sib : Option Byte
  dispRaw : Int
  dispSize : Nat
  imm : Option Byte
  md : Option MemWork
  deriving DecidableEq, Repr

/-- R48: the initial values. -/
def Regs.initial : Regs :=
  { pos := 0, ps := PrefixState.initial, b0 := none, opc := none, entry := none, fam := none, modrm := none,
    sib := none, dispRaw := 0, dispSize := 0, imm := none, md := none }

/-- R31: one operand slot: its kind, its register or None, and the immediate payload of an `Immediate8` slot. -/
structure OpSlot where
  kind : OpKind
  register : Option Register
  imm8 : Byte
  deriving DecidableEq, Repr

/-- R46: a slot with `i >= OpCount`. -/
def OpSlot.unused : OpSlot := { kind := .Register, register := none, imm8 := 0 }

/-- R30 to R34: the decoded record. R8: `byteLength` is a `Fin 16`. -/
structure Instruction where
  code : Code
  byteLength : Fin 16
  opCount : Nat
  op0 : OpSlot
  op1 : OpSlot
  op2 : OpSlot
  op3 : OpSlot
  memorySegment : Option SegReg
  memoryBase : Option Register
  memoryIndex : Option Register
  memoryIndexScale : Nat
  memoryDisplacement : BitVec 32
  memoryDisplSize : Nat
  memorySize : MemorySize
  hasRepePrefix : Bool
  hasRepnePrefix : Bool
  hasLockPrefix : Bool
  segmentPrefix : Option SegReg
  opMask : Option Register
  zeroingMasking : Bool
  roundingControl : RoundingControl
  suppressAllExceptions : Bool
  deriving DecidableEq, Repr

/-- R46: the record of Code `c` and length `len` in which every other field holds the value of an unused field. -/
def Instruction.blank (c : Code) (len : Fin 16) : Instruction :=
  { code := c, byteLength := len, opCount := 0,
    op0 := OpSlot.unused, op1 := OpSlot.unused, op2 := OpSlot.unused, op3 := OpSlot.unused,
    memorySegment := none, memoryBase := none, memoryIndex := none, memoryIndexScale := 1,
    memoryDisplacement := 0, memoryDisplSize := 0, memorySize := .Unknown,
    hasRepePrefix := false, hasRepnePrefix := false, hasLockPrefix := false, segmentPrefix := none,
    opMask := none, zeroingMasking := false, roundingControl := .None, suppressAllExceptions := false }

/-- R21: what a transaction ends with: `Ok(insn)` or `Err(e)`. -/
inductive DecodeResult where
  | Ok (insn : Instruction)
  | Err (e : DecodeError)
  deriving DecidableEq, Repr

/-- R23: the FSM state register. -/
inductive Fsm where
  | Start | PrefixScan | OpcodeLookup | ModRM | VectorFieldDecode | Assemble | Done
  | Error (e : DecodeError)
  deriving DecidableEq, Repr

end Sys2Proof.Machine
end

