-- ==== Sys2Proof/Machine/Table.lean ====
section
/-! DEFINITION. The opcode table (spec/30_encoding.md R82 to R86, spec/41_opcode_table_walker.md R132 to R141): one row
per Code, transcribed from opcode_table.json, and the two lookups over it. -/

namespace Sys2Proof.Machine

open Sys2Proof

/-- R132: the spaces of the lookup key; VEX stands for VEX2 and VEX3 alike. -/
inductive TableSpace where
  | Legacy | VEX | EVEX
  deriving DecidableEq, Repr

/-- R136: which W values select a row. -/
inductive WSel where
  | WIG | W0 | W1
  deriving DecidableEq, Repr

/-- R138: the operand shapes. -/
inductive Shape where
  | R_RM_IB | RMreg_IB | R_RM | NONE | V_RMreg_IB | R_V_RM | V_RM_IB | K_V_RM | R_V_RM_IB
  deriving DecidableEq, Repr

/-- R90, R141: what masking a row allows: none, merging only (k1), merging and zeroing (k1z). -/
inductive MaskKind where
  | none | k1 | k1z
  deriving DecidableEq, Repr

/-- R184: whether a row has an embedded-rounding or a suppress-all-exceptions form. No row in scope has one (R186). -/
inductive Rounding where
  | none | er | sae
  deriving DecidableEq, Repr

/-- R82, R141: one row. `cls` is None for the rows without operands, `memsize` `Unknown` for rows without a memory form,
`bcst` the broadcast memory size and element size. -/
structure Row where
  space : TableSpace
  map : OpMap
  mp : Mp
  opcode : Byte
  digit : Option (BitVec 3)
  w : WSel
  vl : Nat
  shape : Shape
  cls : RegClass
  mask : MaskKind
  memsize : MemorySize
  bcst : Option (MemorySize × Nat)
  rounding : Rounding
  deriving DecidableEq, Repr

/-- The fields of a legacy row of map 0F. -/
def Row.legacy (mp : Mp) (opcode : Byte) (digit : Option (BitVec 3)) (shape : Shape) (cls : RegClass)
    (memsize : MemorySize) : Row :=
  { space := .Legacy, map := .m0F, mp, opcode, digit, w := .WIG, vl := 0, shape, cls, mask := .none, memsize,
    bcst := none, rounding := .none }

/-- The fields of a VEX row of map 0F. -/
def Row.vex (mp : Mp) (opcode : Byte) (digit : Option (BitVec 3)) (vl : Nat) (shape : Shape) (cls : RegClass)
    (memsize : MemorySize) : Row :=
  { space := .VEX, map := .m0F, mp, opcode, digit, w := .WIG, vl, shape, cls, mask := .none, memsize,
    bcst := none, rounding := .none }

/-- The fields of an EVEX row. -/
def Row.evex (map : OpMap) (mp : Mp) (opcode : Byte) (digit : Option (BitVec 3)) (w : WSel) (vl : Nat) (shape : Shape)
    (cls : RegClass) (mask : MaskKind) (memsize : MemorySize) (bcst : Option (MemorySize × Nat)) : Row :=
  { space := .EVEX, map, mp, opcode, digit, w, vl, shape, cls, mask, memsize, bcst, rounding := .none }

/-- R141: the row of a Code, as opcode_table.json gives it. -/
def row (c : Code) : Row :=
  match c with
  | .Pshufw_mm_mmm64_imm8 => Row.legacy .NP 0x70 none .R_RM_IB .MM .Packed64_Int16
  | .Pshufd_xmm_xmmm128_imm8 => Row.legacy .P66 0x70 none .R_RM_IB .XMM .Packed128_Int32
  | .Pshufhw_xmm_xmmm128_imm8 => Row.legacy .PF3 0x70 none .R_RM_IB .XMM .Packed128_Int16
  | .Pshuflw_xmm_xmmm128_imm8 => Row.legacy .PF2 0x70 none .R_RM_IB .XMM .Packed128_Int16
  | .Psrlw_mm_imm8 => Row.legacy .NP 0x71 (some 2) .RMreg_IB .MM .Unknown
  | .Psrlw_xmm_imm8 => Row.legacy .P66 0x71 (some 2) .RMreg_IB .XMM .Unknown
  | .Psraw_mm_imm8 => Row.legacy .NP 0x71 (some 4) .RMreg_IB .MM .Unknown
  | .Psraw_xmm_imm8 => Row.legacy .P66 0x71 (some 4) .RMreg_IB .XMM .Unknown
  | .Psllw_mm_imm8 => Row.legacy .NP 0x71 (some 6) .RMreg_IB .MM .Unknown
  | .Psllw_xmm_imm8 => Row.legacy .P66 0x71 (some 6) .RMreg_IB .XMM .Unknown
  | .Psrld_mm_imm8 => Row.legacy .NP 0x72 (some 2) .RMreg_IB .MM .Unknown
  | .Psrld_xmm_imm8 => Row.legacy .P66 0x72 (some 2) .RMreg_IB .XMM .Unknown
  | .Psrad_mm_imm8 => Row.legacy .NP 0x72 (some 4) .RMreg_IB .MM .Unknown
  | .Psrad_xmm_imm8 => Row.legacy .P66 0x72 (some 4) .RMreg_IB .XMM .Unknown
  | .Pslld_mm_imm8 => Row.legacy .NP 0x72 (some 6) .RMreg_IB .MM .Unknown
  | .Pslld_xmm_imm8 => Row.legacy .P66 0x72 (some 6) .RMreg_IB .XMM .Unknown
  | .Psrlq_mm_imm8 => Row.legacy .NP 0x73 (some 2) .RMreg_IB .MM .Unknown
  | .Psrlq_xmm_imm8 => Row.legacy .P66 0x73 (some 2) .RMreg_IB .XMM .Unknown
  | .Psrldq_xmm_imm8 => Row.legacy .P66 0x73 (some 3) .RMreg_IB .XMM .Unknown
  | .Psllq_mm_imm8 => Row.legacy .NP 0x73 (some 6) .RMreg_IB .MM .Unknown
  | .Psllq_xmm_imm8 => Row.legacy .P66 0x73 (some 6) .RMreg_IB .XMM .Unknown
  | .Pslldq_xmm_imm8 => Row.legacy .P66 0x73 (some 7) .RMreg_IB .XMM .Unknown
  | .Pcmpeqb_mm_mmm64 => Row.legacy .NP 0x74 none .R_RM .MM .Packed64_Int8
  | .Pcmpeqb_xmm_xmmm128 => Row.legacy .P66 0x74 none .R_RM .XMM .Packed128_Int8
  | .Pcmpeqw_mm_mmm64 => Row.legacy .NP 0x75 none .R_RM .MM .Packed64_Int16
  | .Pcmpeqw_xmm_xmmm128 => Row.legacy .P66 0x75 none .R_RM .XMM .Packed128_Int16
  | .Pcmpeqd_mm_mmm64 => Row.legacy .NP 0x76 none .R_RM .MM .Packed64_Int32
  | .Pcmpeqd_xmm_xmmm128 => Row.legacy .P66 0x76 none .R_RM .XMM .Packed128_Int32
  | .Emms => Row.legacy .NP 0x77 none .NONE .MM .Unknown
  | .VEX_Vpshufd_xmm_xmmm128_imm8 => Row.vex .P66 0x70 none 128 .R_RM_IB .XMM .Packed128_Int32
  | .VEX_Vpshufd_ymm_ymmm256_imm8 => Row.vex .P66 0x70 none 256 .R_RM_IB .YMM .Packed256_Int32
  | .VEX_Vpshufhw_xmm_xmmm128_imm8 => Row.vex .PF3 0x70 none 128 .R_RM_IB .XMM .Packed128_Int16
  | .VEX_Vpshufhw_ymm_ymmm256_imm8 => Row.vex .PF3 0x70 none 256 .R_RM_IB .YMM .Packed256_Int16
  | .VEX_Vpshuflw_xmm_xmmm128_imm8 => Row.vex .PF2 0x70 none 128 .R_RM_IB .XMM .Packed128_Int16
  | .VEX_Vpshuflw_ymm_ymmm256_imm8 => Row.vex .PF2 0x70 none 256 .R_RM_IB .YMM .Packed256_Int16
  | .VEX_Vpsrlw_xmm_xmm_imm8 => Row.vex .P66 0x71 (some 2) 128 .V_RMreg_IB .XMM .Unknown
  | .VEX_Vpsrlw_ymm_ymm_imm8 => Row.vex .P66 0x71 (some 2) 256 .V_RMreg_IB .YMM .Unknown
  | .VEX_Vpsraw_xmm_xmm_imm8 => Row.vex .P66 0x71 (some 4) 128 .V_RMreg_IB .XMM .Unknown
  | .VEX_Vpsraw_ymm_ymm_imm8 => Row.vex .P66 0x71 (some 4) 256 .V_RMreg_IB .YMM .Unknown
  | .VEX_Vpsllw_xmm_xmm_imm8 => Row.vex .P66 0x71 (some 6) 128 .V_RMreg_IB .XMM .Unknown
  | .VEX_Vpsllw_ymm_ymm_imm8 => Row.vex .P66 0x71 (some 6) 256 .V_RMreg_IB .YMM .Unknown
  | .VEX_Vpsrld_xmm_xmm_imm8 => Row.vex .P66 0x72 (some 2) 128 .V_RMreg_IB .XMM .Unknown
  | .VEX_Vpsrld_ymm_ymm_imm8 => Row.vex .P66 0x72 (some 2) 256 .V_RMreg_IB .YMM .Unknown
  | .VEX_Vpsrad_xmm_xmm_imm8 => Row.vex .P66 0x72 (some 4) 128 .V_RMreg_IB .XMM .Unknown
  | .VEX_Vpsrad_ymm_ymm_imm8 => Row.vex .P66 0x72 (some 4) 256 .V_RMreg_IB .YMM .Unknown
  | .VEX_Vpslld_xmm_xmm_imm8 => Row.vex .P66 0x72 (some 6) 128 .V_RMreg_IB .XMM .Unknown
  | .VEX_Vpslld_ymm_ymm_imm8 => Row.vex .P66 0x72 (some 6) 256 .V_RMreg_IB .YMM .Unknown
  | .VEX_Vpsrlq_xmm_xmm_imm8 => Row.vex .P66 0x73 (some 2) 128 .V_RMreg_IB .XMM .Unknown
  | .VEX_Vpsrlq_ymm_ymm_imm8 => Row.vex .P66 0x73 (some 2) 256 .V_RMreg_IB .YMM .Unknown
  | .VEX_Vpsrldq_xmm_xmm_imm8 => Row.vex .P66 0x73 (some 3) 128 .V_RMreg_IB .XMM .Unknown
  | .VEX_Vpsrldq_ymm_ymm_imm8 => Row.vex .P66 0x73 (some 3) 256 .V_RMreg_IB .YMM .Unknown
  | .VEX_Vpsllq_xmm_xmm_imm8 => Row.vex .P66 0x73 (some 6) 128 .V_RMreg_IB .XMM .Unknown
  | .VEX_Vpsllq_ymm_ymm_imm8 => Row.vex .P66 0x73 (some 6) 256 .V_RMreg_IB .YMM .Unknown
  | .VEX_Vpslldq_xmm_xmm_imm8 => Row.vex .P66 0x73 (some 7) 128 .V_RMreg_IB .XMM .Unknown
  | .VEX_Vpslldq_ymm_ymm_imm8 => Row.vex .P66 0x73 (some 7) 256 .V_RMreg_IB .YMM .Unknown
  | .VEX_Vpcmpeqb_xmm_xmm_xmmm128 => Row.vex .P66 0x74 none 128 .R_V_RM .XMM .Packed128_Int8
  | .VEX_Vpcmpeqb_ymm_ymm_ymmm256 => Row.vex .P66 0x74 none 256 .R_V_RM .YMM .Packed256_Int8
  | .VEX_Vpcmpeqw_xmm_xmm_xmmm128 => Row.vex .P66 0x75 none 128 .R_V_RM .XMM .Packed128_Int16
  | .VEX_Vpcmpeqw_ymm_ymm_ymmm256 => Row.vex .P66 0x75 none 256 .R_V_RM .YMM .Packed256_Int16
  | .VEX_Vpcmpeqd_xmm_xmm_xmmm128 => Row.vex .P66 0x76 none 128 .R_V_RM .XMM .Packed128_Int32
  | .VEX_Vpcmpeqd_ymm_ymm_ymmm256 => Row.vex .P66 0x76 none 256 .R_V_RM .YMM .Packed256_Int32
  | .VEX_Vzeroupper => Row.vex .NP 0x77 none 128 .NONE .XMM .Unknown
  | .VEX_Vzeroall => Row.vex .NP 0x77 none 256 .NONE .YMM .Unknown
  | .EVEX_Vpshufd_xmm_k1z_xmmm128b32_imm8 => Row.evex .m0F .P66 0x70 none .W0 128 .R_RM_IB .XMM .k1z .Packed128_Int32 (some (.Broadcast128_Int32, 4))
  | .EVEX_Vpshufd_ymm_k1z_ymmm256b32_imm8 => Row.evex .m0F .P66 0x70 none .W0 256 .R_RM_IB .YMM .k1z .Packed256_Int32 (some (.Broadcast256_Int32, 4))
  | .EVEX_Vpshufd_zmm_k1z_zmmm512b32_imm8 => Row.evex .m0F .P66 0x70 none .W0 512 .R_RM_IB .ZMM .k1z .Packed512_Int32 (some (.Broadcast512_Int32, 4))
  | .EVEX_Vpshufhw_xmm_k1z_xmmm128_imm8 => Row.evex .m0F .PF3 0x70 none .WIG 128 .R_RM_IB .XMM .k1z .Packed128_Int16 none
  | .EVEX_Vpshufhw_ymm_k1z_ymmm256_imm8 => Row.evex .m0F .PF3 0x70 none .WIG 256 .R_RM_IB .YMM .k1z .Packed256_Int16 none
  | .EVEX_Vpshufhw_zmm_k1z_zmmm512_imm8 => Row.evex .m0F .PF3 0x70 none .WIG 512 .R_RM_IB .ZMM .k1z .Packed512_Int16 none
  | .EVEX_Vpshuflw_xmm_k1z_xmmm128_imm8 => Row.evex .m0F .PF2 0x70 none .WIG 128 .R_RM_IB .XMM .k1z .Packed128_Int16 none
  | .EVEX_Vpshuflw_ymm_k1z_ymmm256_imm8 => Row.evex .m0F .PF2 0x70 none .WIG 256 .R_RM_IB .YMM .k1z .Packed256_Int16 none
  | .EVEX_Vpshuflw_zmm_k1z_zmmm512_imm8 => Row.evex .m0F .PF2 0x70 none .WIG 512 .R_RM_IB .ZMM .k1z .Packed512_Int16 none
  | .EVEX_Vpsrlw_xmm_k1z_xmmm128_imm8 => Row.evex .m0F .P66 0x71 (some 2) .WIG 128 .V_RM_IB .XMM .k1z .Packed128_UInt16 none
  | .EVEX_Vpsrlw_ymm_k1z_ymmm256_imm8 => Row.evex .m0F .P66 0x71 (some 2) .WIG 256 .V_RM_IB .YMM .k1z .Packed256_UInt16 none
  | .EVEX_Vpsrlw_zmm_k1z_zmmm512_imm8 => Row.evex .m0F .P66 0x71 (some 2) .WIG 512 .V_RM_IB .ZMM .k1z .Packed512_UInt16 none
  | .EVEX_Vpsraw_xmm_k1z_xmmm128_imm8 => Row.evex .m0F .P66 0x71 (some 4) .WIG 128 .V_RM_IB .XMM .k1z .Packed128_Int16 none
  | .EVEX_Vpsraw_ymm_k1z_ymmm256_imm8 => Row.evex .m0F .P66 0x71 (some 4) .WIG 256 .V_RM_IB .YMM .k1z .Packed256_Int16 none
  | .EVEX_Vpsraw_zmm_k1z_zmmm512_imm8 => Row.evex .m0F .P66 0x71 (some 4) .WIG 512 .V_RM_IB .ZMM .k1z .Packed512_Int16 none
  | .EVEX_Vpsllw_xmm_k1z_xmmm128_imm8 => Row.evex .m0F .P66 0x71 (some 6) .WIG 128 .V_RM_IB .XMM .k1z .Packed128_UInt16 none
  | .EVEX_Vpsllw_ymm_k1z_ymmm256_imm8 => Row.evex .m0F .P66 0x71 (some 6) .WIG 256 .V_RM_IB .YMM .k1z .Packed256_UInt16 none
  | .EVEX_Vpsllw_zmm_k1z_zmmm512_imm8 => Row.evex .m0F .P66 0x71 (some 6) .WIG 512 .V_RM_IB .ZMM .k1z .Packed512_UInt16 none
  | .EVEX_Vprord_xmm_k1z_xmmm128b32_imm8 => Row.evex .m0F .P66 0x72 (some 0) .W0 128 .V_RM_IB .XMM .k1z .Packed128_UInt32 (some (.Broadcast128_UInt32, 4))
  | .EVEX_Vprord_ymm_k1z_ymmm256b32_imm8 => Row.evex .m0F .P66 0x72 (some 0) .W0 256 .V_RM_IB .YMM .k1z .Packed256_UInt32 (some (.Broadcast256_UInt32, 4))
  | .EVEX_Vprord_zmm_k1z_zmmm512b32_imm8 => Row.evex .m0F .P66 0x72 (some 0) .W0 512 .V_RM_IB .ZMM .k1z .Packed512_UInt32 (some (.Broadcast512_UInt32, 4))
  | .EVEX_Vprorq_xmm_k1z_xmmm128b64_imm8 => Row.evex .m0F .P66 0x72 (some 0) .W1 128 .V_RM_IB .XMM .k1z .Packed128_UInt64 (some (.Broadcast128_UInt64, 8))
  | .EVEX_Vprorq_ymm_k1z_ymmm256b64_imm8 => Row.evex .m0F .P66 0x72 (some 0) .W1 256 .V_RM_IB .YMM .k1z .Packed256_UInt64 (some (.Broadcast256_UInt64, 8))
  | .EVEX_Vprorq_zmm_k1z_zmmm512b64_imm8 => Row.evex .m0F .P66 0x72 (some 0) .W1 512 .V_RM_IB .ZMM .k1z .Packed512_UInt64 (some (.Broadcast512_UInt64, 8))
  | .EVEX_Vprold_xmm_k1z_xmmm128b32_imm8 => Row.evex .m0F .P66 0x72 (some 1) .W0 128 .V_RM_IB .XMM .k1z .Packed128_UInt32 (some (.Broadcast128_UInt32, 4))
  | .EVEX_Vprold_ymm_k1z_ymmm256b32_imm8 => Row.evex .m0F .P66 0x72 (some 1) .W0 256 .V_RM_IB .YMM .k1z .Packed256_UInt32 (some (.Broadcast256_UInt32, 4))
  | .EVEX_Vprold_zmm_k1z_zmmm512b32_imm8 => Row.evex .m0F .P66 0x72 (some 1) .W0 512 .V_RM_IB .ZMM .k1z .Packed512_UInt32 (some (.Broadcast512_UInt32, 4))
  | .EVEX_Vprolq_xmm_k1z_xmmm128b64_imm8 => Row.evex .m0F .P66 0x72 (some 1) .W1 128 .V_RM_IB .XMM .k1z .Packed128_UInt64 (some (.Broadcast128_UInt64, 8))
  | .EVEX_Vprolq_ymm_k1z_ymmm256b64_imm8 => Row.evex .m0F .P66 0x72 (some 1) .W1 256 .V_RM_IB .YMM .k1z .Packed256_UInt64 (some (.Broadcast256_UInt64, 8))
  | .EVEX_Vprolq_zmm_k1z_zmmm512b64_imm8 => Row.evex .m0F .P66 0x72 (some 1) .W1 512 .V_RM_IB .ZMM .k1z .Packed512_UInt64 (some (.Broadcast512_UInt64, 8))
  | .EVEX_Vpsrld_xmm_k1z_xmmm128b32_imm8 => Row.evex .m0F .P66 0x72 (some 2) .W0 128 .V_RM_IB .XMM .k1z .Packed128_UInt32 (some (.Broadcast128_UInt32, 4))
  | .EVEX_Vpsrld_ymm_k1z_ymmm256b32_imm8 => Row.evex .m0F .P66 0x72 (some 2) .W0 256 .V_RM_IB .YMM .k1z .Packed256_UInt32 (some (.Broadcast256_UInt32, 4))
  | .EVEX_Vpsrld_zmm_k1z_zmmm512b32_imm8 => Row.evex .m0F .P66 0x72 (some 2) .W0 512 .V_RM_IB .ZMM .k1z .Packed512_UInt32 (some (.Broadcast512_UInt32, 4))
  | .EVEX_Vpsrad_xmm_k1z_xmmm128b32_imm8 => Row.evex .m0F .P66 0x72 (some 4) .W0 128 .V_RM_IB .XMM .k1z .Packed128_Int32 (some (.Broadcast128_Int32, 4))
  | .EVEX_Vpsrad_ymm_k1z_ymmm256b32_imm8 => Row.evex .m0F .P66 0x72 (some 4) .W0 256 .V_RM_IB .YMM .k1z .Packed256_Int32 (some (.Broadcast256_Int32, 4))
  | .EVEX_Vpsrad_zmm_k1z_zmmm512b32_imm8 => Row.evex .m0F .P66 0x72 (some 4) .W0 512 .V_RM_IB .ZMM .k1z .Packed512_Int32 (some (.Broadcast512_Int32, 4))
  | .EVEX_Vpsraq_xmm_k1z_xmmm128b64_imm8 => Row.evex .m0F .P66 0x72 (some 4) .W1 128 .V_RM_IB .XMM .k1z .Packed128_Int64 (some (.Broadcast128_Int64, 8))
  | .EVEX_Vpsraq_ymm_k1z_ymmm256b64_imm8 => Row.evex .m0F .P66 0x72 (some 4) .W1 256 .V_RM_IB .YMM .k1z .Packed256_Int64 (some (.Broadcast256_Int64, 8))
  | .EVEX_Vpsraq_zmm_k1z_zmmm512b64_imm8 => Row.evex .m0F .P66 0x72 (some 4) .W1 512 .V_RM_IB .ZMM .k1z .Packed512_Int64 (some (.Broadcast512_Int64, 8))
  | .EVEX_Vpslld_xmm_k1z_xmmm128b32_imm8 => Row.evex .m0F .P66 0x72 (some 6) .W0 128 .V_RM_IB .XMM .k1z .Packed128_UInt32 (some (.Broadcast128_UInt32, 4))
  | .EVEX_Vpslld_ymm_k1z_ymmm256b32_imm8 => Row.evex .m0F .P66 0x72 (some 6) .W0 256 .V_RM_IB .YMM .k1z .Packed256_UInt32 (some (.Broadcast256_UInt32, 4))
  | .EVEX_Vpslld_zmm_k1z_zmmm512b32_imm8 => Row.evex .m0F .P66 0x72 (some 6) .W0 512 .V_RM_IB .ZMM .k1z .Packed512_UInt32 (some (.Broadcast512_UInt32, 4))
  | .EVEX_Vpsrlq_xmm_k1z_xmmm128b64_imm8 => Row.evex .m0F .P66 0x73 (some 2) .W1 128 .V_RM_IB .XMM .k1z .Packed128_UInt64 (some (.Broadcast128_UInt64, 8))
  | .EVEX_Vpsrlq_ymm_k1z_ymmm256b64_imm8 => Row.evex .m0F .P66 0x73 (some 2) .W1 256 .V_RM_IB .YMM .k1z .Packed256_UInt64 (some (.Broadcast256_UInt64, 8))
  | .EVEX_Vpsrlq_zmm_k1z_zmmm512b64_imm8 => Row.evex .m0F .P66 0x73 (some 2) .W1 512 .V_RM_IB .ZMM .k1z .Packed512_UInt64 (some (.Broadcast512_UInt64, 8))
  | .EVEX_Vpsrldq_xmm_xmmm128_imm8 => Row.evex .m0F .P66 0x73 (some 3) .WIG 128 .V_RM_IB .XMM .none .UInt128 none
  | .EVEX_Vpsrldq_ymm_ymmm256_imm8 => Row.evex .m0F .P66 0x73 (some 3) .WIG 256 .V_RM_IB .YMM .none .UInt256 none
  | .EVEX_Vpsrldq_zmm_zmmm512_imm8 => Row.evex .m0F .P66 0x73 (some 3) .WIG 512 .V_RM_IB .ZMM .none .UInt512 none
  | .EVEX_Vpsllq_xmm_k1z_xmmm128b64_imm8 => Row.evex .m0F .P66 0x73 (some 6) .W1 128 .V_RM_IB .XMM .k1z .Packed128_UInt64 (some (.Broadcast128_UInt64, 8))
  | .EVEX_Vpsllq_ymm_k1z_ymmm256b64_imm8 => Row.evex .m0F .P66 0x73 (some 6) .W1 256 .V_RM_IB .YMM .k1z .Packed256_UInt64 (some (.Broadcast256_UInt64, 8))
  | .EVEX_Vpsllq_zmm_k1z_zmmm512b64_imm8 => Row.evex .m0F .P66 0x73 (some 6) .W1 512 .V_RM_IB .ZMM .k1z .Packed512_UInt64 (some (.Broadcast512_UInt64, 8))
  | .EVEX_Vpslldq_xmm_xmmm128_imm8 => Row.evex .m0F .P66 0x73 (some 7) .WIG 128 .V_RM_IB .XMM .none .UInt128 none
  | .EVEX_Vpslldq_ymm_ymmm256_imm8 => Row.evex .m0F .P66 0x73 (some 7) .WIG 256 .V_RM_IB .YMM .none .UInt256 none
  | .EVEX_Vpslldq_zmm_zmmm512_imm8 => Row.evex .m0F .P66 0x73 (some 7) .WIG 512 .V_RM_IB .ZMM .none .UInt512 none
  | .EVEX_Vpcmpeqb_kr_k1_xmm_xmmm128 => Row.evex .m0F .P66 0x74 none .WIG 128 .K_V_RM .XMM .k1 .Packed128_Int8 none
  | .EVEX_Vpcmpeqb_kr_k1_ymm_ymmm256 => Row.evex .m0F .P66 0x74 none .WIG 256 .K_V_RM .YMM .k1 .Packed256_Int8 none
  | .EVEX_Vpcmpeqb_kr_k1_zmm_zmmm512 => Row.evex .m0F .P66 0x74 none .WIG 512 .K_V_RM .ZMM .k1 .Packed512_Int8 none
  | .EVEX_Vpcmpeqw_kr_k1_xmm_xmmm128 => Row.evex .m0F .P66 0x75 none .WIG 128 .K_V_RM .XMM .k1 .Packed128_Int16 none
  | .EVEX_Vpcmpeqw_kr_k1_ymm_ymmm256 => Row.evex .m0F .P66 0x75 none .WIG 256 .K_V_RM .YMM .k1 .Packed256_Int16 none
  | .EVEX_Vpcmpeqw_kr_k1_zmm_zmmm512 => Row.evex .m0F .P66 0x75 none .WIG 512 .K_V_RM .ZMM .k1 .Packed512_Int16 none
  | .EVEX_Vpcmpeqd_kr_k1_xmm_xmmm128b32 => Row.evex .m0F .P66 0x76 none .W0 128 .K_V_RM .XMM .k1 .Packed128_Int32 (some (.Broadcast128_Int32, 4))
  | .EVEX_Vpcmpeqd_kr_k1_ymm_ymmm256b32 => Row.evex .m0F .P66 0x76 none .W0 256 .K_V_RM .YMM .k1 .Packed256_Int32 (some (.Broadcast256_Int32, 4))
  | .EVEX_Vpcmpeqd_kr_k1_zmm_zmmm512b32 => Row.evex .m0F .P66 0x76 none .W0 512 .K_V_RM .ZMM .k1 .Packed512_Int32 (some (.Broadcast512_Int32, 4))
  | .EVEX_Vpshldw_xmm_k1z_xmm_xmmm128_imm8 => Row.evex .m0F3A .P66 0x70 none .W1 128 .R_V_RM_IB .XMM .k1z .Packed128_UInt16 none
  | .EVEX_Vpshldw_ymm_k1z_ymm_ymmm256_imm8 => Row.evex .m0F3A .P66 0x70 none .W1 256 .R_V_RM_IB .YMM .k1z .Packed256_UInt16 none
  | .EVEX_Vpshldw_zmm_k1z_zmm_zmmm512_imm8 => Row.evex .m0F3A .P66 0x70 none .W1 512 .R_V_RM_IB .ZMM .k1z .Packed512_UInt16 none
  | .EVEX_Vpshldd_xmm_k1z_xmm_xmmm128b32_imm8 => Row.evex .m0F3A .P66 0x71 none .W0 128 .R_V_RM_IB .XMM .k1z .Packed128_UInt32 (some (.Broadcast128_UInt32, 4))
  | .EVEX_Vpshldd_ymm_k1z_ymm_ymmm256b32_imm8 => Row.evex .m0F3A .P66 0x71 none .W0 256 .R_V_RM_IB .YMM .k1z .Packed256_UInt32 (some (.Broadcast256_UInt32, 4))
  | .EVEX_Vpshldd_zmm_k1z_zmm_zmmm512b32_imm8 => Row.evex .m0F3A .P66 0x71 none .W0 512 .R_V_RM_IB .ZMM .k1z .Packed512_UInt32 (some (.Broadcast512_UInt32, 4))
  | .EVEX_Vpshldq_xmm_k1z_xmm_xmmm128b64_imm8 => Row.evex .m0F3A .P66 0x71 none .W1 128 .R_V_RM_IB .XMM .k1z .Packed128_UInt64 (some (.Broadcast128_UInt64, 8))
  | .EVEX_Vpshldq_ymm_k1z_ymm_ymmm256b64_imm8 => Row.evex .m0F3A .P66 0x71 none .W1 256 .R_V_RM_IB .YMM .k1z .Packed256_UInt64 (some (.Broadcast256_UInt64, 8))
  | .EVEX_Vpshldq_zmm_k1z_zmm_zmmm512b64_imm8 => Row.evex .m0F3A .P66 0x71 none .W1 512 .R_V_RM_IB .ZMM .k1z .Packed512_UInt64 (some (.Broadcast512_UInt64, 8))
  | .EVEX_Vpshrdw_xmm_k1z_xmm_xmmm128_imm8 => Row.evex .m0F3A .P66 0x72 none .W1 128 .R_V_RM_IB .XMM .k1z .Packed128_UInt16 none
  | .EVEX_Vpshrdw_ymm_k1z_ymm_ymmm256_imm8 => Row.evex .m0F3A .P66 0x72 none .W1 256 .R_V_RM_IB .YMM .k1z .Packed256_UInt16 none
  | .EVEX_Vpshrdw_zmm_k1z_zmm_zmmm512_imm8 => Row.evex .m0F3A .P66 0x72 none .W1 512 .R_V_RM_IB .ZMM .k1z .Packed512_UInt16 none
  | .EVEX_Vpshrdd_xmm_k1z_xmm_xmmm128b32_imm8 => Row.evex .m0F3A .P66 0x73 none .W0 128 .R_V_RM_IB .XMM .k1z .Packed128_UInt32 (some (.Broadcast128_UInt32, 4))
  | .EVEX_Vpshrdd_ymm_k1z_ymm_ymmm256b32_imm8 => Row.evex .m0F3A .P66 0x73 none .W0 256 .R_V_RM_IB .YMM .k1z .Packed256_UInt32 (some (.Broadcast256_UInt32, 4))
  | .EVEX_Vpshrdd_zmm_k1z_zmm_zmmm512b32_imm8 => Row.evex .m0F3A .P66 0x73 none .W0 512 .R_V_RM_IB .ZMM .k1z .Packed512_UInt32 (some (.Broadcast512_UInt32, 4))
  | .EVEX_Vpshrdq_xmm_k1z_xmm_xmmm128b64_imm8 => Row.evex .m0F3A .P66 0x73 none .W1 128 .R_V_RM_IB .XMM .k1z .Packed128_UInt64 (some (.Broadcast128_UInt64, 8))
  | .EVEX_Vpshrdq_ymm_k1z_ymm_ymmm256b64_imm8 => Row.evex .m0F3A .P66 0x73 none .W1 256 .R_V_RM_IB .YMM .k1z .Packed256_UInt64 (some (.Broadcast256_UInt64, 8))
  | .EVEX_Vpshrdq_zmm_k1z_zmm_zmmm512b64_imm8 => Row.evex .m0F3A .P66 0x73 none .W1 512 .R_V_RM_IB .ZMM .k1z .Packed512_UInt64 (some (.Broadcast512_UInt64, 8))

/-- Rows 0 to 11 of opcode_table.json. -/
def codes0 : List Code :=
  [.Pshufw_mm_mmm64_imm8,
   .Pshufd_xmm_xmmm128_imm8,
   .Pshufhw_xmm_xmmm128_imm8,
   .Pshuflw_xmm_xmmm128_imm8,
   .Psrlw_mm_imm8,
   .Psrlw_xmm_imm8,
   .Psraw_mm_imm8,
   .Psraw_xmm_imm8,
   .Psllw_mm_imm8,
   .Psllw_xmm_imm8,
   .Psrld_mm_imm8,
   .Psrld_xmm_imm8]

/-- Rows 12 to 23 of opcode_table.json. -/
def codes1 : List Code :=
  [.Psrad_mm_imm8,
   .Psrad_xmm_imm8,
   .Pslld_mm_imm8,
   .Pslld_xmm_imm8,
   .Psrlq_mm_imm8,
   .Psrlq_xmm_imm8,
   .Psrldq_xmm_imm8,
   .Psllq_mm_imm8,
   .Psllq_xmm_imm8,
   .Pslldq_xmm_imm8,
   .Pcmpeqb_mm_mmm64,
   .Pcmpeqb_xmm_xmmm128]

/-- Rows 24 to 35 of opcode_table.json. -/
def codes2 : List Code :=
  [.Pcmpeqw_mm_mmm64,
   .Pcmpeqw_xmm_xmmm128,
   .Pcmpeqd_mm_mmm64,
   .Pcmpeqd_xmm_xmmm128,
   .Emms,
   .VEX_Vpshufd_xmm_xmmm128_imm8,
   .VEX_Vpshufd_ymm_ymmm256_imm8,
   .VEX_Vpshufhw_xmm_xmmm128_imm8,
   .VEX_Vpshufhw_ymm_ymmm256_imm8,
   .VEX_Vpshuflw_xmm_xmmm128_imm8,
   .VEX_Vpshuflw_ymm_ymmm256_imm8,
   .VEX_Vpsrlw_xmm_xmm_imm8]

/-- Rows 36 to 47 of opcode_table.json. -/
def codes3 : List Code :=
  [.VEX_Vpsrlw_ymm_ymm_imm8,
   .VEX_Vpsraw_xmm_xmm_imm8,
   .VEX_Vpsraw_ymm_ymm_imm8,
   .VEX_Vpsllw_xmm_xmm_imm8,
   .VEX_Vpsllw_ymm_ymm_imm8,
   .VEX_Vpsrld_xmm_xmm_imm8,
   .VEX_Vpsrld_ymm_ymm_imm8,
   .VEX_Vpsrad_xmm_xmm_imm8,
   .VEX_Vpsrad_ymm_ymm_imm8,
   .VEX_Vpslld_xmm_xmm_imm8,
   .VEX_Vpslld_ymm_ymm_imm8,
   .VEX_Vpsrlq_xmm_xmm_imm8]

/-- Rows 48 to 59 of opcode_table.json. -/
def codes4 : List Code :=
  [.VEX_Vpsrlq_ymm_ymm_imm8,
   .VEX_Vpsrldq_xmm_xmm_imm8,
   .VEX_Vpsrldq_ymm_ymm_imm8,
   .VEX_Vpsllq_xmm_xmm_imm8,
   .VEX_Vpsllq_ymm_ymm_imm8,
   .VEX_Vpslldq_xmm_xmm_imm8,
   .VEX_Vpslldq_ymm_ymm_imm8,
   .VEX_Vpcmpeqb_xmm_xmm_xmmm128,
   .VEX_Vpcmpeqb_ymm_ymm_ymmm256,
   .VEX_Vpcmpeqw_xmm_xmm_xmmm128,
   .VEX_Vpcmpeqw_ymm_ymm_ymmm256,
   .VEX_Vpcmpeqd_xmm_xmm_xmmm128]

/-- Rows 60 to 71 of opcode_table.json. -/
def codes5 : List Code :=
  [.VEX_Vpcmpeqd_ymm_ymm_ymmm256,
   .VEX_Vzeroupper,
   .VEX_Vzeroall,
   .EVEX_Vpshufd_xmm_k1z_xmmm128b32_imm8,
   .EVEX_Vpshufd_ymm_k1z_ymmm256b32_imm8,
   .EVEX_Vpshufd_zmm_k1z_zmmm512b32_imm8,
   .EVEX_Vpshufhw_xmm_k1z_xmmm128_imm8,
   .EVEX_Vpshufhw_ymm_k1z_ymmm256_imm8,
   .EVEX_Vpshufhw_zmm_k1z_zmmm512_imm8,
   .EVEX_Vpshuflw_xmm_k1z_xmmm128_imm8,
   .EVEX_Vpshuflw_ymm_k1z_ymmm256_imm8,
   .EVEX_Vpshuflw_zmm_k1z_zmmm512_imm8]

/-- Rows 72 to 83 of opcode_table.json. -/
def codes6 : List Code :=
  [.EVEX_Vpsrlw_xmm_k1z_xmmm128_imm8,
   .EVEX_Vpsrlw_ymm_k1z_ymmm256_imm8,
   .EVEX_Vpsrlw_zmm_k1z_zmmm512_imm8,
   .EVEX_Vpsraw_xmm_k1z_xmmm128_imm8,
   .EVEX_Vpsraw_ymm_k1z_ymmm256_imm8,
   .EVEX_Vpsraw_zmm_k1z_zmmm512_imm8,
   .EVEX_Vpsllw_xmm_k1z_xmmm128_imm8,
   .EVEX_Vpsllw_ymm_k1z_ymmm256_imm8,
   .EVEX_Vpsllw_zmm_k1z_zmmm512_imm8,
   .EVEX_Vprord_xmm_k1z_xmmm128b32_imm8,
   .EVEX_Vprord_ymm_k1z_ymmm256b32_imm8,
   .EVEX_Vprord_zmm_k1z_zmmm512b32_imm8]

/-- Rows 84 to 95 of opcode_table.json. -/
def codes7 : List Code :=
  [.EVEX_Vprorq_xmm_k1z_xmmm128b64_imm8,
   .EVEX_Vprorq_ymm_k1z_ymmm256b64_imm8,
   .EVEX_Vprorq_zmm_k1z_zmmm512b64_imm8,
   .EVEX_Vprold_xmm_k1z_xmmm128b32_imm8,
   .EVEX_Vprold_ymm_k1z_ymmm256b32_imm8,
   .EVEX_Vprold_zmm_k1z_zmmm512b32_imm8,
   .EVEX_Vprolq_xmm_k1z_xmmm128b64_imm8,
   .EVEX_Vprolq_ymm_k1z_ymmm256b64_imm8,
   .EVEX_Vprolq_zmm_k1z_zmmm512b64_imm8,
   .EVEX_Vpsrld_xmm_k1z_xmmm128b32_imm8,
   .EVEX_Vpsrld_ymm_k1z_ymmm256b32_imm8,
   .EVEX_Vpsrld_zmm_k1z_zmmm512b32_imm8]

/-- Rows 96 to 107 of opcode_table.json. -/
def codes8 : List Code :=
  [.EVEX_Vpsrad_xmm_k1z_xmmm128b32_imm8,
   .EVEX_Vpsrad_ymm_k1z_ymmm256b32_imm8,
   .EVEX_Vpsrad_zmm_k1z_zmmm512b32_imm8,
   .EVEX_Vpsraq_xmm_k1z_xmmm128b64_imm8,
   .EVEX_Vpsraq_ymm_k1z_ymmm256b64_imm8,
   .EVEX_Vpsraq_zmm_k1z_zmmm512b64_imm8,
   .EVEX_Vpslld_xmm_k1z_xmmm128b32_imm8,
   .EVEX_Vpslld_ymm_k1z_ymmm256b32_imm8,
   .EVEX_Vpslld_zmm_k1z_zmmm512b32_imm8,
   .EVEX_Vpsrlq_xmm_k1z_xmmm128b64_imm8,
   .EVEX_Vpsrlq_ymm_k1z_ymmm256b64_imm8,
   .EVEX_Vpsrlq_zmm_k1z_zmmm512b64_imm8]

/-- Rows 108 to 119 of opcode_table.json. -/
def codes9 : List Code :=
  [.EVEX_Vpsrldq_xmm_xmmm128_imm8,
   .EVEX_Vpsrldq_ymm_ymmm256_imm8,
   .EVEX_Vpsrldq_zmm_zmmm512_imm8,
   .EVEX_Vpsllq_xmm_k1z_xmmm128b64_imm8,
   .EVEX_Vpsllq_ymm_k1z_ymmm256b64_imm8,
   .EVEX_Vpsllq_zmm_k1z_zmmm512b64_imm8,
   .EVEX_Vpslldq_xmm_xmmm128_imm8,
   .EVEX_Vpslldq_ymm_ymmm256_imm8,
   .EVEX_Vpslldq_zmm_zmmm512_imm8,
   .EVEX_Vpcmpeqb_kr_k1_xmm_xmmm128,
   .EVEX_Vpcmpeqb_kr_k1_ymm_ymmm256,
   .EVEX_Vpcmpeqb_kr_k1_zmm_zmmm512]

/-- Rows 120 to 131 of opcode_table.json. -/
def codes10 : List Code :=
  [.EVEX_Vpcmpeqw_kr_k1_xmm_xmmm128,
   .EVEX_Vpcmpeqw_kr_k1_ymm_ymmm256,
   .EVEX_Vpcmpeqw_kr_k1_zmm_zmmm512,
   .EVEX_Vpcmpeqd_kr_k1_xmm_xmmm128b32,
   .EVEX_Vpcmpeqd_kr_k1_ymm_ymmm256b32,
   .EVEX_Vpcmpeqd_kr_k1_zmm_zmmm512b32,
   .EVEX_Vpshldw_xmm_k1z_xmm_xmmm128_imm8,
   .EVEX_Vpshldw_ymm_k1z_ymm_ymmm256_imm8,
   .EVEX_Vpshldw_zmm_k1z_zmm_zmmm512_imm8,
   .EVEX_Vpshldd_xmm_k1z_xmm_xmmm128b32_imm8,
   .EVEX_Vpshldd_ymm_k1z_ymm_ymmm256b32_imm8,
   .EVEX_Vpshldd_zmm_k1z_zmm_zmmm512b32_imm8]

/-- Rows 132 to 143 of opcode_table.json. -/
def codes11 : List Code :=
  [.EVEX_Vpshldq_xmm_k1z_xmm_xmmm128b64_imm8,
   .EVEX_Vpshldq_ymm_k1z_ymm_ymmm256b64_imm8,
   .EVEX_Vpshldq_zmm_k1z_zmm_zmmm512b64_imm8,
   .EVEX_Vpshrdw_xmm_k1z_xmm_xmmm128_imm8,
   .EVEX_Vpshrdw_ymm_k1z_ymm_ymmm256_imm8,
   .EVEX_Vpshrdw_zmm_k1z_zmm_zmmm512_imm8,
   .EVEX_Vpshrdd_xmm_k1z_xmm_xmmm128b32_imm8,
   .EVEX_Vpshrdd_ymm_k1z_ymm_ymmm256b32_imm8,
   .EVEX_Vpshrdd_zmm_k1z_zmm_zmmm512b32_imm8,
   .EVEX_Vpshrdq_xmm_k1z_xmm_xmmm128b64_imm8,
   .EVEX_Vpshrdq_ymm_k1z_ymm_ymmm256b64_imm8,
   .EVEX_Vpshrdq_zmm_k1z_zmm_zmmm512b64_imm8]

/-- R141: every Code, in the table's order. -/
def allCodes : List Code :=
  codes0 ++ codes1 ++ codes2 ++ codes3 ++ codes4 ++ codes5 ++ codes6 ++ codes7 ++ codes8 ++ codes9 ++ codes10 ++ codes11

/-- R142: `SPACE`, which maps VEX2 and VEX3 to VEX. -/
def tableSpace (sp : Space) : TableSpace :=
  match sp with
  | .Legacy => .Legacy
  | .VEX2 => .VEX
  | .VEX3 => .VEX
  | .EVEX => .EVEX

/-- R132: whether a row's key is `(space', map, mp, opc)`. -/
def Row.keyIs (r : Row) (sp : TableSpace) (map : OpMap) (mp : Mp) (opc : Byte) : Bool :=
  decide (r.opcode = opc) && decide (r.space = sp) && decide (r.mp = mp) && decide (r.map = map)

/-- R132: `entry`, the rows whose key equals `(space', map, mp, opc)`. -/
def lookup (sp : TableSpace) (map : OpMap) (mp : Mp) (opc : Byte) : List Code :=
  allCodes.filter fun c => (row c).keyIs sp map mp opc

/-- R134: whether a ModRM byte follows; the rows of one entry agree. -/
def needsModRM (entry : List Code) : Bool :=
  entry.any fun c => decide ((row c).shape ≠ .NONE)

/-- R136: whether a row stays under W. -/
def WSel.admits (w : WSel) (W : Bool) : Bool :=
  match w with
  | .WIG => true
  | .W0 => !W
  | .W1 => W

/-- R135: whether a row stays under ModRM.reg; a row without a digit always stays. -/
def digitAdmits (digit : Option (BitVec 3)) (reg : Option (BitVec 3)) : Bool :=
  match digit with
  | none => true
  | some d => decide (reg = some d)

/-- R135, R136, R142: `SELECT`: the rows of the one family that ModRM.reg and W leave, or none. -/
def select (entry : List Code) (reg : Option (BitVec 3)) (W : Bool) : Option (List Code) :=
  match entry.filter (fun c => digitAdmits (row c).digit reg && (row c).w.admits W) with
  | [] => none
  | c :: cs => some (c :: cs)

/-- R198: `fam.codes[VL]`. -/
def codeOf (fam : List Code) (vl : Nat) : Option Code :=
  fam.find? fun c => decide ((row c).vl = vl)

/-- R138, R153: whether the shape requires a register rm. -/
def Shape.rmRegOnly (sh : Shape) : Bool :=
  match sh with
  | .RMreg_IB => true
  | .V_RMreg_IB => true
  | .R_RM_IB => false
  | .R_RM => false
  | .NONE => false
  | .R_V_RM => false
  | .V_RM_IB => false
  | .K_V_RM => false
  | .R_V_RM_IB => false

/-- R138, R167: whether an imm8 follows. -/
def Shape.hasImm8 (sh : Shape) : Bool :=
  match sh with
  | .R_RM_IB => true
  | .RMreg_IB => true
  | .R_RM => false
  | .NONE => false
  | .V_RMreg_IB => true
  | .R_V_RM => false
  | .V_RM_IB => true
  | .K_V_RM => false
  | .R_V_RM_IB => true

/-- R138, R214: what fills an operand slot: the register of ModRM.reg, the K register of ModRM.reg, the vvvv register,
the register or memory of ModRM.rm, the imm8. -/
inductive Slot where
  | reg (cls : RegClass)
  | kreg
  | vvvv (cls : RegClass)
  | rm (cls : RegClass)
  | imm8
  deriving DecidableEq, Repr

/-- R138: the slots of a shape, destination first. -/
def Shape.slots (sh : Shape) (cls : RegClass) : List Slot :=
  match sh with
  | .R_RM_IB => [.reg cls, .rm cls, .imm8]
  | .RMreg_IB => [.rm cls, .imm8]
  | .R_RM => [.reg cls, .rm cls]
  | .NONE => []
  | .V_RMreg_IB => [.vvvv cls, .rm cls, .imm8]
  | .R_V_RM => [.reg cls, .vvvv cls, .rm cls]
  | .V_RM_IB => [.vvvv cls, .rm cls, .imm8]
  | .K_V_RM => [.kreg, .vvvv cls, .rm cls]
  | .R_V_RM_IB => [.reg cls, .vvvv cls, .rm cls, .imm8]

/-- What an instruction rule (R300 to R466) says of its row: the Code, the vector length, the slots, the memory size
and the broadcast memory size with its element size, the masking it allows. -/
structure Form where
  code : Code
  vl : Nat
  slots : List Slot
  memsize : MemorySize
  bcst : Option (MemorySize × Nat)
  mask : MaskKind
  rounding : Rounding
  deriving DecidableEq, Repr

/-- The form that the table gives a Code (R138, R141). -/
def tableForm (c : Code) : Form :=
  { code := c, vl := (row c).vl, slots := (row c).shape.slots (row c).cls, memsize := (row c).memsize,
    bcst := (row c).bcst, mask := (row c).mask, rounding := (row c).rounding }

/-- R189, R199: `USES_VVVV`. -/
def Form.usesVvvv (f : Form) : Bool :=
  f.slots.any fun s => match s with
    | .vvvv _ => true
    | .reg _ => false
    | .kreg => false
    | .rm _ => false
    | .imm8 => false

/-- R193: whether the destination is a K register (shape `K_V_RM`). -/
def Form.kDest (f : Form) : Bool :=
  f.slots.any fun s => decide (s = .kreg)

/-- R138: whether the form has an rm operand. -/
def Form.hasRm (f : Form) : Bool :=
  f.slots.any fun s => match s with
    | .rm _ => true
    | .reg _ => false
    | .kreg => false
    | .vvvv _ => false
    | .imm8 => false

/-- R82: the two bits of a space in the lookup key. -/
def TableSpace.keyBits (sp : TableSpace) : BitVec 2 :=
  match sp with
  | .Legacy => 0
  | .VEX => 1
  | .EVEX => 2

/-- R82: the two bits of a map in the lookup key; also EVEX `mm` (R75). -/
def mapKeyBits (m : OpMap) : BitVec 2 :=
  match m with
  | .m0F => 1
  | .m0F38 => 2
  | .m0F3A => 3

/-- R81, R82: the two bits of a mandatory prefix: `pp`. -/
def mpKeyBits (m : Mp) : BitVec 2 :=
  match m with
  | .NP => 0
  | .P66 => 1
  | .PF3 => 2
  | .PF2 => 3

/-- R82, R183: L'L of a vector length (0 for a legacy row). -/
def llOf (vl : Nat) : BitVec 2 :=
  if vl = 512 then 2 else if vl = 256 then 1 else 0

/-- R82: the row's value of the 20-bit key, with the bits the row does not compare 0. -/
def Row.keyMatch (r : Row) : BitVec 20 :=
  r.space.keyBits ++ mapKeyBits r.map ++ mpKeyBits r.mp ++ r.opcode ++ (r.digit.getD 0) ++
    BitVec.ofBool (decide (r.w = .W1)) ++ llOf r.vl

/-- R82: the bits of the key that the row compares. -/
def Row.keyMask (r : Row) : BitVec 20 :=
  (0xFFFC0 : BitVec 20) ||| (if r.digit.isSome then 0x38 else 0) ||| (if r.w = .WIG then 0 else 4) |||
    (if r.space = .Legacy then 0 else 3)

end Sys2Proof.Machine
end

