-- ==== Sys2Proof/Machine/VectorField.lean ====
section
/-! DEFINITION. The vector-field decode (spec/43_vex_evex_fields.md R180 to R199): the vector length and the
rounding/SAE branch, and the checks and values of the state `VectorFieldDecode`. -/

namespace Sys2Proof.Machine

open Sys2Proof

/-- R117: the extension bits outside 64-bit bitness. `vvvvRaw` and `VpRaw` keep the values before the masking. -/
def maskExtensions (bt : Bitness) (ps : PrefixState) : PrefixState :=
  match bt with
  | .b64 => { ps with vvvvRaw := ps.vvvv, VpRaw := ps.Vp }
  | .b16 => { ps with vvvvRaw := ps.vvvv, VpRaw := ps.Vp, R := false, X := false, B := false, Rp := false, Vp := false,
                      vvvv := ps.vvvv &&& 7 }
  | .b32 => { ps with vvvvRaw := ps.vvvv, VpRaw := ps.Vp, R := false, X := false, B := false, Rp := false, Vp := false,
                      vvvv := ps.vvvv &&& 7 }

/-- R185: `RCMAP`. -/
def rcMap (ll : BitVec 2) : RoundingControl :=
  match ll.toNat with
  | 0 => .RoundToNearest
  | 1 => .RoundDown
  | 2 => .RoundUp
  | _ => .RoundTowardZero

/-- What `vectorLength` answers: VL, RC and SAE. -/
structure Length where
  vl : Nat
  rc : RoundingControl
  sae : Bool
  deriving DecidableEq, Repr

/-- R181 to R186: the vector length, RC and SAE; none where R183 or R184 raises `InvalidVexEvexEncoding`. `regform` is
REGFORM (R182). Legacy rows have VL 0 (R180). -/
def vectorLength (rounding : Rounding) (ps : PrefixState) (regform : Bool) : Option Length :=
  match ps.space with
  | .Legacy => some { vl := 0, rc := .None, sae := false }
  | .VEX2 => some { vl := if ps.L then 256 else 128, rc := .None, sae := false }
  | .VEX3 => some { vl := if ps.L then 256 else 128, rc := .None, sae := false }
  | .EVEX =>
    if regform && ps.b then
      match rounding with
      | .er => some { vl := 512, rc := rcMap ps.LL, sae := true }
      | .sae => some { vl := 512, rc := .None, sae := true }
      | .none => none
    else if ps.LL = 3 then none
    else some { vl := 128 <<< ps.LL.toNat, rc := .None, sae := false }

/-- R187, R189, R191 to R193, R199: whether a check of an EVEX form fails. -/
def evexFieldsBad (f : Form) (ps : PrefixState) (regform : Bool) : Bool :=
  (!regform && ps.b && f.bcst.isNone) ||
  (!f.usesVvvv && (decide (ps.vvvvRaw ≠ 0) || ps.VpRaw)) ||
  (decide (f.mask = .none) && (decide (ps.aaa ≠ 0) || ps.z)) ||
  (decide (f.mask = .k1) && ps.z) ||
  (ps.z && decide (ps.aaa = 0)) ||
  (f.kDest && (ps.R || ps.Rp))

/-- R190: the opmask that `aaa` selects. -/
def opmaskOf (aaa : BitVec 3) : Option Register :=
  if aaa = 0 then none else some (.k aaa)

/-- R195: the displacement factor of an EVEX memory operand with a 1-byte displacement. -/
def dispFactor (bcst : Option (MemorySize × Nat)) (isBcst : Bool) (vl : Nat) : Nat :=
  match isBcst, bcst with
  | true, some (_, elem) => elem
  | true, none => vl / 8
  | false, _ => vl / 8

/-- R199: `VectorFieldDecode`. `regform` is REGFORM, `disp8` whether the rm operand is memory with a 1-byte
displacement. A legacy row skips the state: `vf` stays at its initial value (R180). -/
def vectorFieldDecode (f : Form) (ps : PrefixState) (regform disp8 : Bool) : Except DecodeError VectorFields :=
  match vectorLength f.rounding ps regform with
  | none => .error .InvalidVexEvexEncoding
  | some len =>
    match ps.space with
    | .Legacy => .ok VectorFields.initial
    | .VEX2 =>
      if !f.usesVvvv && decide (ps.vvvvRaw ≠ 0) then .error .InvalidVexEvexEncoding
      else .ok { VectorFields.initial with vl := len.vl }
    | .VEX3 =>
      if !f.usesVvvv && decide (ps.vvvvRaw ≠ 0) then .error .InvalidVexEvexEncoding
      else .ok { VectorFields.initial with vl := len.vl }
    | .EVEX =>
      if evexFieldsBad f ps regform then .error .InvalidVexEvexEncoding
      else .ok
        { vl := len.vl, rc := len.rc, sae := len.sae, opmask := opmaskOf ps.aaa, zeroing := ps.z,
          bcst := !regform && ps.b,
          n := if disp8 then dispFactor f.bcst (!regform && ps.b) len.vl else 1 }

end Sys2Proof.Machine
end

