-- ==== Sys2Proof/Machine/Flags.lean ====
section
/-! DEFINITION. The one-bit outputs. The block computes no processor status flag (spec/10_state.md R42); its flags are the
prefix flags of the record (R33, spec/44_assembler.md R215) and the mandatory prefix they depend on
(spec/40_prefix_scanner.md R118 to R122). -/

namespace Sys2Proof.Machine

open Sys2Proof

/-- R118: the mandatory prefix of a legacy instruction: F2/F3 before 66 before none. -/
def legacyMp (rep : Option Rep) (opsize : Bool) : Mp :=
  match rep with
  | some .F2 => .PF2
  | some .F3 => .PF3
  | none => if opsize then .P66 else .NP

/-- R119: the mandatory prefix that `pp` stands for. -/
def ppMp (pp : BitVec 2) : Mp :=
  match pp.toNat with
  | 0 => .NP
  | 1 => .P66
  | 2 => .PF3
  | _ => .PF2

/-- R215: `HasRepePrefix`: an F3 that is not the mandatory prefix. -/
def hasRepe (ps : PrefixState) : Bool :=
  decide (ps.rep = some .F3) && decide (ps.mp ≠ .PF3)

/-- R215: `HasRepnePrefix`: an F2 that is not the mandatory prefix. -/
def hasRepne (ps : PrefixState) : Bool :=
  decide (ps.rep = some .F2) && decide (ps.mp ≠ .PF2)

/-- R121, R215: `HasLockPrefix`. -/
def hasLock (ps : PrefixState) : Bool := ps.lock

/-- R122, R215: `SegmentPrefix`. -/
def segmentPrefix (ps : PrefixState) : Option SegReg := ps.seg

/-- R165: `MemorySegment` of a memory operand: the segment prefix, otherwise DS. -/
def memorySegment (ps : PrefixState) : SegReg := ps.seg.getD .DS

end Sys2Proof.Machine
end

