-- ==== Sys2Proof/Machine/Forms.lean ====
section
/-! DEFINITION. From a Code and the operand fields to the instruction and back: `build`, `Instr.code`, `Instr.bundle`.
One line per row of opcode_table.json; the shape of a row (R138) says which fields it has. -/

namespace Sys2Proof

/-- The instruction of row `c` with the operand fields `f` (R139, R198: the Code names the constructor). -/
def build (c : Code) (f : Bundle) : Instr :=
  match c with
  | .Pshufw_mm_mmm64_imm8 => .Pshufw_mm_mmm64_imm8 f.legacy f.reg f.rm f.imm
  | .Pshufd_xmm_xmmm128_imm8 => .Pshufd_xmm_xmmm128_imm8 f.legacy f.reg f.rm f.imm
  | .Pshufhw_xmm_xmmm128_imm8 => .Pshufhw_xmm_xmmm128_imm8 f.legacy f.reg f.rm f.imm
  | .Pshuflw_xmm_xmmm128_imm8 => .Pshuflw_xmm_xmmm128_imm8 f.legacy f.reg f.rm f.imm
  | .Psrlw_mm_imm8 => .Psrlw_mm_imm8 f.legacy f.rm.field f.imm
  | .Psrlw_xmm_imm8 => .Psrlw_xmm_imm8 f.legacy f.rm.field f.imm
  | .Psraw_mm_imm8 => .Psraw_mm_imm8 f.legacy f.rm.field f.imm
  | .Psraw_xmm_imm8 => .Psraw_xmm_imm8 f.legacy f.rm.field f.imm
  | .Psllw_mm_imm8 => .Psllw_mm_imm8 f.legacy f.rm.field f.imm
  | .Psllw_xmm_imm8 => .Psllw_xmm_imm8 f.legacy f.rm.field f.imm
  | .Psrld_mm_imm8 => .Psrld_mm_imm8 f.legacy f.rm.field f.imm
  | .Psrld_xmm_imm8 => .Psrld_xmm_imm8 f.legacy f.rm.field f.imm
  | .Psrad_mm_imm8 => .Psrad_mm_imm8 f.legacy f.rm.field f.imm
  | .Psrad_xmm_imm8 => .Psrad_xmm_imm8 f.legacy f.rm.field f.imm
  | .Pslld_mm_imm8 => .Pslld_mm_imm8 f.legacy f.rm.field f.imm
  | .Pslld_xmm_imm8 => .Pslld_xmm_imm8 f.legacy f.rm.field f.imm
  | .Psrlq_mm_imm8 => .Psrlq_mm_imm8 f.legacy f.rm.field f.imm
  | .Psrlq_xmm_imm8 => .Psrlq_xmm_imm8 f.legacy f.rm.field f.imm
  | .Psrldq_xmm_imm8 => .Psrldq_xmm_imm8 f.legacy f.rm.field f.imm
  | .Psllq_mm_imm8 => .Psllq_mm_imm8 f.legacy f.rm.field f.imm
  | .Psllq_xmm_imm8 => .Psllq_xmm_imm8 f.legacy f.rm.field f.imm
  | .Pslldq_xmm_imm8 => .Pslldq_xmm_imm8 f.legacy f.rm.field f.imm
  | .Pcmpeqb_mm_mmm64 => .Pcmpeqb_mm_mmm64 f.legacy f.reg f.rm
  | .Pcmpeqb_xmm_xmmm128 => .Pcmpeqb_xmm_xmmm128 f.legacy f.reg f.rm
  | .Pcmpeqw_mm_mmm64 => .Pcmpeqw_mm_mmm64 f.legacy f.reg f.rm
  | .Pcmpeqw_xmm_xmmm128 => .Pcmpeqw_xmm_xmmm128 f.legacy f.reg f.rm
  | .Pcmpeqd_mm_mmm64 => .Pcmpeqd_mm_mmm64 f.legacy f.reg f.rm
  | .Pcmpeqd_xmm_xmmm128 => .Pcmpeqd_xmm_xmmm128 f.legacy f.reg f.rm
  | .Emms => .Emms f.legacy
  | .VEX_Vpshufd_xmm_xmmm128_imm8 => .VEX_Vpshufd_xmm_xmmm128_imm8 f.vex f.reg f.rm f.imm
  | .VEX_Vpshufd_ymm_ymmm256_imm8 => .VEX_Vpshufd_ymm_ymmm256_imm8 f.vex f.reg f.rm f.imm
  | .VEX_Vpshufhw_xmm_xmmm128_imm8 => .VEX_Vpshufhw_xmm_xmmm128_imm8 f.vex f.reg f.rm f.imm
  | .VEX_Vpshufhw_ymm_ymmm256_imm8 => .VEX_Vpshufhw_ymm_ymmm256_imm8 f.vex f.reg f.rm f.imm
  | .VEX_Vpshuflw_xmm_xmmm128_imm8 => .VEX_Vpshuflw_xmm_xmmm128_imm8 f.vex f.reg f.rm f.imm
  | .VEX_Vpshuflw_ymm_ymmm256_imm8 => .VEX_Vpshuflw_ymm_ymmm256_imm8 f.vex f.reg f.rm f.imm
  | .VEX_Vpsrlw_xmm_xmm_imm8 => .VEX_Vpsrlw_xmm_xmm_imm8 f.vex f.rm.field f.imm
  | .VEX_Vpsrlw_ymm_ymm_imm8 => .VEX_Vpsrlw_ymm_ymm_imm8 f.vex f.rm.field f.imm
  | .VEX_Vpsraw_xmm_xmm_imm8 => .VEX_Vpsraw_xmm_xmm_imm8 f.vex f.rm.field f.imm
  | .VEX_Vpsraw_ymm_ymm_imm8 => .VEX_Vpsraw_ymm_ymm_imm8 f.vex f.rm.field f.imm
  | .VEX_Vpsllw_xmm_xmm_imm8 => .VEX_Vpsllw_xmm_xmm_imm8 f.vex f.rm.field f.imm
  | .VEX_Vpsllw_ymm_ymm_imm8 => .VEX_Vpsllw_ymm_ymm_imm8 f.vex f.rm.field f.imm
  | .VEX_Vpsrld_xmm_xmm_imm8 => .VEX_Vpsrld_xmm_xmm_imm8 f.vex f.rm.field f.imm
  | .VEX_Vpsrld_ymm_ymm_imm8 => .VEX_Vpsrld_ymm_ymm_imm8 f.vex f.rm.field f.imm
  | .VEX_Vpsrad_xmm_xmm_imm8 => .VEX_Vpsrad_xmm_xmm_imm8 f.vex f.rm.field f.imm
  | .VEX_Vpsrad_ymm_ymm_imm8 => .VEX_Vpsrad_ymm_ymm_imm8 f.vex f.rm.field f.imm
  | .VEX_Vpslld_xmm_xmm_imm8 => .VEX_Vpslld_xmm_xmm_imm8 f.vex f.rm.field f.imm
  | .VEX_Vpslld_ymm_ymm_imm8 => .VEX_Vpslld_ymm_ymm_imm8 f.vex f.rm.field f.imm
  | .VEX_Vpsrlq_xmm_xmm_imm8 => .VEX_Vpsrlq_xmm_xmm_imm8 f.vex f.rm.field f.imm
  | .VEX_Vpsrlq_ymm_ymm_imm8 => .VEX_Vpsrlq_ymm_ymm_imm8 f.vex f.rm.field f.imm
  | .VEX_Vpsrldq_xmm_xmm_imm8 => .VEX_Vpsrldq_xmm_xmm_imm8 f.vex f.rm.field f.imm
  | .VEX_Vpsrldq_ymm_ymm_imm8 => .VEX_Vpsrldq_ymm_ymm_imm8 f.vex f.rm.field f.imm
  | .VEX_Vpsllq_xmm_xmm_imm8 => .VEX_Vpsllq_xmm_xmm_imm8 f.vex f.rm.field f.imm
  | .VEX_Vpsllq_ymm_ymm_imm8 => .VEX_Vpsllq_ymm_ymm_imm8 f.vex f.rm.field f.imm
  | .VEX_Vpslldq_xmm_xmm_imm8 => .VEX_Vpslldq_xmm_xmm_imm8 f.vex f.rm.field f.imm
  | .VEX_Vpslldq_ymm_ymm_imm8 => .VEX_Vpslldq_ymm_ymm_imm8 f.vex f.rm.field f.imm
  | .VEX_Vpcmpeqb_xmm_xmm_xmmm128 => .VEX_Vpcmpeqb_xmm_xmm_xmmm128 f.vex f.reg f.rm
  | .VEX_Vpcmpeqb_ymm_ymm_ymmm256 => .VEX_Vpcmpeqb_ymm_ymm_ymmm256 f.vex f.reg f.rm
  | .VEX_Vpcmpeqw_xmm_xmm_xmmm128 => .VEX_Vpcmpeqw_xmm_xmm_xmmm128 f.vex f.reg f.rm
  | .VEX_Vpcmpeqw_ymm_ymm_ymmm256 => .VEX_Vpcmpeqw_ymm_ymm_ymmm256 f.vex f.reg f.rm
  | .VEX_Vpcmpeqd_xmm_xmm_xmmm128 => .VEX_Vpcmpeqd_xmm_xmm_xmmm128 f.vex f.reg f.rm
  | .VEX_Vpcmpeqd_ymm_ymm_ymmm256 => .VEX_Vpcmpeqd_ymm_ymm_ymmm256 f.vex f.reg f.rm
  | .VEX_Vzeroupper => .VEX_Vzeroupper f.vex
  | .VEX_Vzeroall => .VEX_Vzeroall f.vex
  | .EVEX_Vpshufd_xmm_k1z_xmmm128b32_imm8 => .EVEX_Vpshufd_xmm_k1z_xmmm128b32_imm8 f.evex f.reg f.rm f.imm
  | .EVEX_Vpshufd_ymm_k1z_ymmm256b32_imm8 => .EVEX_Vpshufd_ymm_k1z_ymmm256b32_imm8 f.evex f.reg f.rm f.imm
  | .EVEX_Vpshufd_zmm_k1z_zmmm512b32_imm8 => .EVEX_Vpshufd_zmm_k1z_zmmm512b32_imm8 f.evex f.reg f.rm f.imm
  | .EVEX_Vpshufhw_xmm_k1z_xmmm128_imm8 => .EVEX_Vpshufhw_xmm_k1z_xmmm128_imm8 f.evex f.reg f.rm f.imm
  | .EVEX_Vpshufhw_ymm_k1z_ymmm256_imm8 => .EVEX_Vpshufhw_ymm_k1z_ymmm256_imm8 f.evex f.reg f.rm f.imm
  | .EVEX_Vpshufhw_zmm_k1z_zmmm512_imm8 => .EVEX_Vpshufhw_zmm_k1z_zmmm512_imm8 f.evex f.reg f.rm f.imm
  | .EVEX_Vpshuflw_xmm_k1z_xmmm128_imm8 => .EVEX_Vpshuflw_xmm_k1z_xmmm128_imm8 f.evex f.reg f.rm f.imm
  | .EVEX_Vpshuflw_ymm_k1z_ymmm256_imm8 => .EVEX_Vpshuflw_ymm_k1z_ymmm256_imm8 f.evex f.reg f.rm f.imm
  | .EVEX_Vpshuflw_zmm_k1z_zmmm512_imm8 => .EVEX_Vpshuflw_zmm_k1z_zmmm512_imm8 f.evex f.reg f.rm f.imm
  | .EVEX_Vpsrlw_xmm_k1z_xmmm128_imm8 => .EVEX_Vpsrlw_xmm_k1z_xmmm128_imm8 f.evex f.rm f.imm
  | .EVEX_Vpsrlw_ymm_k1z_ymmm256_imm8 => .EVEX_Vpsrlw_ymm_k1z_ymmm256_imm8 f.evex f.rm f.imm
  | .EVEX_Vpsrlw_zmm_k1z_zmmm512_imm8 => .EVEX_Vpsrlw_zmm_k1z_zmmm512_imm8 f.evex f.rm f.imm
  | .EVEX_Vpsraw_xmm_k1z_xmmm128_imm8 => .EVEX_Vpsraw_xmm_k1z_xmmm128_imm8 f.evex f.rm f.imm
  | .EVEX_Vpsraw_ymm_k1z_ymmm256_imm8 => .EVEX_Vpsraw_ymm_k1z_ymmm256_imm8 f.evex f.rm f.imm
  | .EVEX_Vpsraw_zmm_k1z_zmmm512_imm8 => .EVEX_Vpsraw_zmm_k1z_zmmm512_imm8 f.evex f.rm f.imm
  | .EVEX_Vpsllw_xmm_k1z_xmmm128_imm8 => .EVEX_Vpsllw_xmm_k1z_xmmm128_imm8 f.evex f.rm f.imm
  | .EVEX_Vpsllw_ymm_k1z_ymmm256_imm8 => .EVEX_Vpsllw_ymm_k1z_ymmm256_imm8 f.evex f.rm f.imm
  | .EVEX_Vpsllw_zmm_k1z_zmmm512_imm8 => .EVEX_Vpsllw_zmm_k1z_zmmm512_imm8 f.evex f.rm f.imm
  | .EVEX_Vprord_xmm_k1z_xmmm128b32_imm8 => .EVEX_Vprord_xmm_k1z_xmmm128b32_imm8 f.evex f.rm f.imm
  | .EVEX_Vprord_ymm_k1z_ymmm256b32_imm8 => .EVEX_Vprord_ymm_k1z_ymmm256b32_imm8 f.evex f.rm f.imm
  | .EVEX_Vprord_zmm_k1z_zmmm512b32_imm8 => .EVEX_Vprord_zmm_k1z_zmmm512b32_imm8 f.evex f.rm f.imm
  | .EVEX_Vprorq_xmm_k1z_xmmm128b64_imm8 => .EVEX_Vprorq_xmm_k1z_xmmm128b64_imm8 f.evex f.rm f.imm
  | .EVEX_Vprorq_ymm_k1z_ymmm256b64_imm8 => .EVEX_Vprorq_ymm_k1z_ymmm256b64_imm8 f.evex f.rm f.imm
  | .EVEX_Vprorq_zmm_k1z_zmmm512b64_imm8 => .EVEX_Vprorq_zmm_k1z_zmmm512b64_imm8 f.evex f.rm f.imm
  | .EVEX_Vprold_xmm_k1z_xmmm128b32_imm8 => .EVEX_Vprold_xmm_k1z_xmmm128b32_imm8 f.evex f.rm f.imm
  | .EVEX_Vprold_ymm_k1z_ymmm256b32_imm8 => .EVEX_Vprold_ymm_k1z_ymmm256b32_imm8 f.evex f.rm f.imm
  | .EVEX_Vprold_zmm_k1z_zmmm512b32_imm8 => .EVEX_Vprold_zmm_k1z_zmmm512b32_imm8 f.evex f.rm f.imm
  | .EVEX_Vprolq_xmm_k1z_xmmm128b64_imm8 => .EVEX_Vprolq_xmm_k1z_xmmm128b64_imm8 f.evex f.rm f.imm
  | .EVEX_Vprolq_ymm_k1z_ymmm256b64_imm8 => .EVEX_Vprolq_ymm_k1z_ymmm256b64_imm8 f.evex f.rm f.imm
  | .EVEX_Vprolq_zmm_k1z_zmmm512b64_imm8 => .EVEX_Vprolq_zmm_k1z_zmmm512b64_imm8 f.evex f.rm f.imm
  | .EVEX_Vpsrld_xmm_k1z_xmmm128b32_imm8 => .EVEX_Vpsrld_xmm_k1z_xmmm128b32_imm8 f.evex f.rm f.imm
  | .EVEX_Vpsrld_ymm_k1z_ymmm256b32_imm8 => .EVEX_Vpsrld_ymm_k1z_ymmm256b32_imm8 f.evex f.rm f.imm
  | .EVEX_Vpsrld_zmm_k1z_zmmm512b32_imm8 => .EVEX_Vpsrld_zmm_k1z_zmmm512b32_imm8 f.evex f.rm f.imm
  | .EVEX_Vpsrad_xmm_k1z_xmmm128b32_imm8 => .EVEX_Vpsrad_xmm_k1z_xmmm128b32_imm8 f.evex f.rm f.imm
  | .EVEX_Vpsrad_ymm_k1z_ymmm256b32_imm8 => .EVEX_Vpsrad_ymm_k1z_ymmm256b32_imm8 f.evex f.rm f.imm
  | .EVEX_Vpsrad_zmm_k1z_zmmm512b32_imm8 => .EVEX_Vpsrad_zmm_k1z_zmmm512b32_imm8 f.evex f.rm f.imm
  | .EVEX_Vpsraq_xmm_k1z_xmmm128b64_imm8 => .EVEX_Vpsraq_xmm_k1z_xmmm128b64_imm8 f.evex f.rm f.imm
  | .EVEX_Vpsraq_ymm_k1z_ymmm256b64_imm8 => .EVEX_Vpsraq_ymm_k1z_ymmm256b64_imm8 f.evex f.rm f.imm
  | .EVEX_Vpsraq_zmm_k1z_zmmm512b64_imm8 => .EVEX_Vpsraq_zmm_k1z_zmmm512b64_imm8 f.evex f.rm f.imm
  | .EVEX_Vpslld_xmm_k1z_xmmm128b32_imm8 => .EVEX_Vpslld_xmm_k1z_xmmm128b32_imm8 f.evex f.rm f.imm
  | .EVEX_Vpslld_ymm_k1z_ymmm256b32_imm8 => .EVEX_Vpslld_ymm_k1z_ymmm256b32_imm8 f.evex f.rm f.imm
  | .EVEX_Vpslld_zmm_k1z_zmmm512b32_imm8 => .EVEX_Vpslld_zmm_k1z_zmmm512b32_imm8 f.evex f.rm f.imm
  | .EVEX_Vpsrlq_xmm_k1z_xmmm128b64_imm8 => .EVEX_Vpsrlq_xmm_k1z_xmmm128b64_imm8 f.evex f.rm f.imm
  | .EVEX_Vpsrlq_ymm_k1z_ymmm256b64_imm8 => .EVEX_Vpsrlq_ymm_k1z_ymmm256b64_imm8 f.evex f.rm f.imm
  | .EVEX_Vpsrlq_zmm_k1z_zmmm512b64_imm8 => .EVEX_Vpsrlq_zmm_k1z_zmmm512b64_imm8 f.evex f.rm f.imm
  | .EVEX_Vpsrldq_xmm_xmmm128_imm8 => .EVEX_Vpsrldq_xmm_xmmm128_imm8 f.evex f.rm f.imm
  | .EVEX_Vpsrldq_ymm_ymmm256_imm8 => .EVEX_Vpsrldq_ymm_ymmm256_imm8 f.evex f.rm f.imm
  | .EVEX_Vpsrldq_zmm_zmmm512_imm8 => .EVEX_Vpsrldq_zmm_zmmm512_imm8 f.evex f.rm f.imm
  | .EVEX_Vpsllq_xmm_k1z_xmmm128b64_imm8 => .EVEX_Vpsllq_xmm_k1z_xmmm128b64_imm8 f.evex f.rm f.imm
  | .EVEX_Vpsllq_ymm_k1z_ymmm256b64_imm8 => .EVEX_Vpsllq_ymm_k1z_ymmm256b64_imm8 f.evex f.rm f.imm
  | .EVEX_Vpsllq_zmm_k1z_zmmm512b64_imm8 => .EVEX_Vpsllq_zmm_k1z_zmmm512b64_imm8 f.evex f.rm f.imm
  | .EVEX_Vpslldq_xmm_xmmm128_imm8 => .EVEX_Vpslldq_xmm_xmmm128_imm8 f.evex f.rm f.imm
  | .EVEX_Vpslldq_ymm_ymmm256_imm8 => .EVEX_Vpslldq_ymm_ymmm256_imm8 f.evex f.rm f.imm
  | .EVEX_Vpslldq_zmm_zmmm512_imm8 => .EVEX_Vpslldq_zmm_zmmm512_imm8 f.evex f.rm f.imm
  | .EVEX_Vpcmpeqb_kr_k1_xmm_xmmm128 => .EVEX_Vpcmpeqb_kr_k1_xmm_xmmm128 f.evex f.reg f.rm
  | .EVEX_Vpcmpeqb_kr_k1_ymm_ymmm256 => .EVEX_Vpcmpeqb_kr_k1_ymm_ymmm256 f.evex f.reg f.rm
  | .EVEX_Vpcmpeqb_kr_k1_zmm_zmmm512 => .EVEX_Vpcmpeqb_kr_k1_zmm_zmmm512 f.evex f.reg f.rm
  | .EVEX_Vpcmpeqw_kr_k1_xmm_xmmm128 => .EVEX_Vpcmpeqw_kr_k1_xmm_xmmm128 f.evex f.reg f.rm
  | .EVEX_Vpcmpeqw_kr_k1_ymm_ymmm256 => .EVEX_Vpcmpeqw_kr_k1_ymm_ymmm256 f.evex f.reg f.rm
  | .EVEX_Vpcmpeqw_kr_k1_zmm_zmmm512 => .EVEX_Vpcmpeqw_kr_k1_zmm_zmmm512 f.evex f.reg f.rm
  | .EVEX_Vpcmpeqd_kr_k1_xmm_xmmm128b32 => .EVEX_Vpcmpeqd_kr_k1_xmm_xmmm128b32 f.evex f.reg f.rm
  | .EVEX_Vpcmpeqd_kr_k1_ymm_ymmm256b32 => .EVEX_Vpcmpeqd_kr_k1_ymm_ymmm256b32 f.evex f.reg f.rm
  | .EVEX_Vpcmpeqd_kr_k1_zmm_zmmm512b32 => .EVEX_Vpcmpeqd_kr_k1_zmm_zmmm512b32 f.evex f.reg f.rm
  | .EVEX_Vpshldw_xmm_k1z_xmm_xmmm128_imm8 => .EVEX_Vpshldw_xmm_k1z_xmm_xmmm128_imm8 f.evex f.reg f.rm f.imm
  | .EVEX_Vpshldw_ymm_k1z_ymm_ymmm256_imm8 => .EVEX_Vpshldw_ymm_k1z_ymm_ymmm256_imm8 f.evex f.reg f.rm f.imm
  | .EVEX_Vpshldw_zmm_k1z_zmm_zmmm512_imm8 => .EVEX_Vpshldw_zmm_k1z_zmm_zmmm512_imm8 f.evex f.reg f.rm f.imm
  | .EVEX_Vpshldd_xmm_k1z_xmm_xmmm128b32_imm8 => .EVEX_Vpshldd_xmm_k1z_xmm_xmmm128b32_imm8 f.evex f.reg f.rm f.imm
  | .EVEX_Vpshldd_ymm_k1z_ymm_ymmm256b32_imm8 => .EVEX_Vpshldd_ymm_k1z_ymm_ymmm256b32_imm8 f.evex f.reg f.rm f.imm
  | .EVEX_Vpshldd_zmm_k1z_zmm_zmmm512b32_imm8 => .EVEX_Vpshldd_zmm_k1z_zmm_zmmm512b32_imm8 f.evex f.reg f.rm f.imm
  | .EVEX_Vpshldq_xmm_k1z_xmm_xmmm128b64_imm8 => .EVEX_Vpshldq_xmm_k1z_xmm_xmmm128b64_imm8 f.evex f.reg f.rm f.imm
  | .EVEX_Vpshldq_ymm_k1z_ymm_ymmm256b64_imm8 => .EVEX_Vpshldq_ymm_k1z_ymm_ymmm256b64_imm8 f.evex f.reg f.rm f.imm
  | .EVEX_Vpshldq_zmm_k1z_zmm_zmmm512b64_imm8 => .EVEX_Vpshldq_zmm_k1z_zmm_zmmm512b64_imm8 f.evex f.reg f.rm f.imm
  | .EVEX_Vpshrdw_xmm_k1z_xmm_xmmm128_imm8 => .EVEX_Vpshrdw_xmm_k1z_xmm_xmmm128_imm8 f.evex f.reg f.rm f.imm
  | .EVEX_Vpshrdw_ymm_k1z_ymm_ymmm256_imm8 => .EVEX_Vpshrdw_ymm_k1z_ymm_ymmm256_imm8 f.evex f.reg f.rm f.imm
  | .EVEX_Vpshrdw_zmm_k1z_zmm_zmmm512_imm8 => .EVEX_Vpshrdw_zmm_k1z_zmm_zmmm512_imm8 f.evex f.reg f.rm f.imm
  | .EVEX_Vpshrdd_xmm_k1z_xmm_xmmm128b32_imm8 => .EVEX_Vpshrdd_xmm_k1z_xmm_xmmm128b32_imm8 f.evex f.reg f.rm f.imm
  | .EVEX_Vpshrdd_ymm_k1z_ymm_ymmm256b32_imm8 => .EVEX_Vpshrdd_ymm_k1z_ymm_ymmm256b32_imm8 f.evex f.reg f.rm f.imm
  | .EVEX_Vpshrdd_zmm_k1z_zmm_zmmm512b32_imm8 => .EVEX_Vpshrdd_zmm_k1z_zmm_zmmm512b32_imm8 f.evex f.reg f.rm f.imm
  | .EVEX_Vpshrdq_xmm_k1z_xmm_xmmm128b64_imm8 => .EVEX_Vpshrdq_xmm_k1z_xmm_xmmm128b64_imm8 f.evex f.reg f.rm f.imm
  | .EVEX_Vpshrdq_ymm_k1z_ymm_ymmm256b64_imm8 => .EVEX_Vpshrdq_ymm_k1z_ymm_ymmm256b64_imm8 f.evex f.reg f.rm f.imm
  | .EVEX_Vpshrdq_zmm_k1z_zmm_zmmm512b64_imm8 => .EVEX_Vpshrdq_zmm_k1z_zmm_zmmm512b64_imm8 f.evex f.reg f.rm f.imm

/-- The Code of an instruction (R47). -/
def Instr.code (i : Instr) : Code :=
  match i with
  | .Pshufw_mm_mmm64_imm8 _ _ _ _ => .Pshufw_mm_mmm64_imm8
  | .Pshufd_xmm_xmmm128_imm8 _ _ _ _ => .Pshufd_xmm_xmmm128_imm8
  | .Pshufhw_xmm_xmmm128_imm8 _ _ _ _ => .Pshufhw_xmm_xmmm128_imm8
  | .Pshuflw_xmm_xmmm128_imm8 _ _ _ _ => .Pshuflw_xmm_xmmm128_imm8
  | .Psrlw_mm_imm8 _ _ _ => .Psrlw_mm_imm8
  | .Psrlw_xmm_imm8 _ _ _ => .Psrlw_xmm_imm8
  | .Psraw_mm_imm8 _ _ _ => .Psraw_mm_imm8
  | .Psraw_xmm_imm8 _ _ _ => .Psraw_xmm_imm8
  | .Psllw_mm_imm8 _ _ _ => .Psllw_mm_imm8
  | .Psllw_xmm_imm8 _ _ _ => .Psllw_xmm_imm8
  | .Psrld_mm_imm8 _ _ _ => .Psrld_mm_imm8
  | .Psrld_xmm_imm8 _ _ _ => .Psrld_xmm_imm8
  | .Psrad_mm_imm8 _ _ _ => .Psrad_mm_imm8
  | .Psrad_xmm_imm8 _ _ _ => .Psrad_xmm_imm8
  | .Pslld_mm_imm8 _ _ _ => .Pslld_mm_imm8
  | .Pslld_xmm_imm8 _ _ _ => .Pslld_xmm_imm8
  | .Psrlq_mm_imm8 _ _ _ => .Psrlq_mm_imm8
  | .Psrlq_xmm_imm8 _ _ _ => .Psrlq_xmm_imm8
  | .Psrldq_xmm_imm8 _ _ _ => .Psrldq_xmm_imm8
  | .Psllq_mm_imm8 _ _ _ => .Psllq_mm_imm8
  | .Psllq_xmm_imm8 _ _ _ => .Psllq_xmm_imm8
  | .Pslldq_xmm_imm8 _ _ _ => .Pslldq_xmm_imm8
  | .Pcmpeqb_mm_mmm64 _ _ _ => .Pcmpeqb_mm_mmm64
  | .Pcmpeqb_xmm_xmmm128 _ _ _ => .Pcmpeqb_xmm_xmmm128
  | .Pcmpeqw_mm_mmm64 _ _ _ => .Pcmpeqw_mm_mmm64
  | .Pcmpeqw_xmm_xmmm128 _ _ _ => .Pcmpeqw_xmm_xmmm128
  | .Pcmpeqd_mm_mmm64 _ _ _ => .Pcmpeqd_mm_mmm64
  | .Pcmpeqd_xmm_xmmm128 _ _ _ => .Pcmpeqd_xmm_xmmm128
  | .Emms _ => .Emms
  | .VEX_Vpshufd_xmm_xmmm128_imm8 _ _ _ _ => .VEX_Vpshufd_xmm_xmmm128_imm8
  | .VEX_Vpshufd_ymm_ymmm256_imm8 _ _ _ _ => .VEX_Vpshufd_ymm_ymmm256_imm8
  | .VEX_Vpshufhw_xmm_xmmm128_imm8 _ _ _ _ => .VEX_Vpshufhw_xmm_xmmm128_imm8
  | .VEX_Vpshufhw_ymm_ymmm256_imm8 _ _ _ _ => .VEX_Vpshufhw_ymm_ymmm256_imm8
  | .VEX_Vpshuflw_xmm_xmmm128_imm8 _ _ _ _ => .VEX_Vpshuflw_xmm_xmmm128_imm8
  | .VEX_Vpshuflw_ymm_ymmm256_imm8 _ _ _ _ => .VEX_Vpshuflw_ymm_ymmm256_imm8
  | .VEX_Vpsrlw_xmm_xmm_imm8 _ _ _ => .VEX_Vpsrlw_xmm_xmm_imm8
  | .VEX_Vpsrlw_ymm_ymm_imm8 _ _ _ => .VEX_Vpsrlw_ymm_ymm_imm8
  | .VEX_Vpsraw_xmm_xmm_imm8 _ _ _ => .VEX_Vpsraw_xmm_xmm_imm8
  | .VEX_Vpsraw_ymm_ymm_imm8 _ _ _ => .VEX_Vpsraw_ymm_ymm_imm8
  | .VEX_Vpsllw_xmm_xmm_imm8 _ _ _ => .VEX_Vpsllw_xmm_xmm_imm8
  | .VEX_Vpsllw_ymm_ymm_imm8 _ _ _ => .VEX_Vpsllw_ymm_ymm_imm8
  | .VEX_Vpsrld_xmm_xmm_imm8 _ _ _ => .VEX_Vpsrld_xmm_xmm_imm8
  | .VEX_Vpsrld_ymm_ymm_imm8 _ _ _ => .VEX_Vpsrld_ymm_ymm_imm8
  | .VEX_Vpsrad_xmm_xmm_imm8 _ _ _ => .VEX_Vpsrad_xmm_xmm_imm8
  | .VEX_Vpsrad_ymm_ymm_imm8 _ _ _ => .VEX_Vpsrad_ymm_ymm_imm8
  | .VEX_Vpslld_xmm_xmm_imm8 _ _ _ => .VEX_Vpslld_xmm_xmm_imm8
  | .VEX_Vpslld_ymm_ymm_imm8 _ _ _ => .VEX_Vpslld_ymm_ymm_imm8
  | .VEX_Vpsrlq_xmm_xmm_imm8 _ _ _ => .VEX_Vpsrlq_xmm_xmm_imm8
  | .VEX_Vpsrlq_ymm_ymm_imm8 _ _ _ => .VEX_Vpsrlq_ymm_ymm_imm8
  | .VEX_Vpsrldq_xmm_xmm_imm8 _ _ _ => .VEX_Vpsrldq_xmm_xmm_imm8
  | .VEX_Vpsrldq_ymm_ymm_imm8 _ _ _ => .VEX_Vpsrldq_ymm_ymm_imm8
  | .VEX_Vpsllq_xmm_xmm_imm8 _ _ _ => .VEX_Vpsllq_xmm_xmm_imm8
  | .VEX_Vpsllq_ymm_ymm_imm8 _ _ _ => .VEX_Vpsllq_ymm_ymm_imm8
  | .VEX_Vpslldq_xmm_xmm_imm8 _ _ _ => .VEX_Vpslldq_xmm_xmm_imm8
  | .VEX_Vpslldq_ymm_ymm_imm8 _ _ _ => .VEX_Vpslldq_ymm_ymm_imm8
  | .VEX_Vpcmpeqb_xmm_xmm_xmmm128 _ _ _ => .VEX_Vpcmpeqb_xmm_xmm_xmmm128
  | .VEX_Vpcmpeqb_ymm_ymm_ymmm256 _ _ _ => .VEX_Vpcmpeqb_ymm_ymm_ymmm256
  | .VEX_Vpcmpeqw_xmm_xmm_xmmm128 _ _ _ => .VEX_Vpcmpeqw_xmm_xmm_xmmm128
  | .VEX_Vpcmpeqw_ymm_ymm_ymmm256 _ _ _ => .VEX_Vpcmpeqw_ymm_ymm_ymmm256
  | .VEX_Vpcmpeqd_xmm_xmm_xmmm128 _ _ _ => .VEX_Vpcmpeqd_xmm_xmm_xmmm128
  | .VEX_Vpcmpeqd_ymm_ymm_ymmm256 _ _ _ => .VEX_Vpcmpeqd_ymm_ymm_ymmm256
  | .VEX_Vzeroupper _ => .VEX_Vzeroupper
  | .VEX_Vzeroall _ => .VEX_Vzeroall
  | .EVEX_Vpshufd_xmm_k1z_xmmm128b32_imm8 _ _ _ _ => .EVEX_Vpshufd_xmm_k1z_xmmm128b32_imm8
  | .EVEX_Vpshufd_ymm_k1z_ymmm256b32_imm8 _ _ _ _ => .EVEX_Vpshufd_ymm_k1z_ymmm256b32_imm8
  | .EVEX_Vpshufd_zmm_k1z_zmmm512b32_imm8 _ _ _ _ => .EVEX_Vpshufd_zmm_k1z_zmmm512b32_imm8
  | .EVEX_Vpshufhw_xmm_k1z_xmmm128_imm8 _ _ _ _ => .EVEX_Vpshufhw_xmm_k1z_xmmm128_imm8
  | .EVEX_Vpshufhw_ymm_k1z_ymmm256_imm8 _ _ _ _ => .EVEX_Vpshufhw_ymm_k1z_ymmm256_imm8
  | .EVEX_Vpshufhw_zmm_k1z_zmmm512_imm8 _ _ _ _ => .EVEX_Vpshufhw_zmm_k1z_zmmm512_imm8
  | .EVEX_Vpshuflw_xmm_k1z_xmmm128_imm8 _ _ _ _ => .EVEX_Vpshuflw_xmm_k1z_xmmm128_imm8
  | .EVEX_Vpshuflw_ymm_k1z_ymmm256_imm8 _ _ _ _ => .EVEX_Vpshuflw_ymm_k1z_ymmm256_imm8
  | .EVEX_Vpshuflw_zmm_k1z_zmmm512_imm8 _ _ _ _ => .EVEX_Vpshuflw_zmm_k1z_zmmm512_imm8
  | .EVEX_Vpsrlw_xmm_k1z_xmmm128_imm8 _ _ _ => .EVEX_Vpsrlw_xmm_k1z_xmmm128_imm8
  | .EVEX_Vpsrlw_ymm_k1z_ymmm256_imm8 _ _ _ => .EVEX_Vpsrlw_ymm_k1z_ymmm256_imm8
  | .EVEX_Vpsrlw_zmm_k1z_zmmm512_imm8 _ _ _ => .EVEX_Vpsrlw_zmm_k1z_zmmm512_imm8
  | .EVEX_Vpsraw_xmm_k1z_xmmm128_imm8 _ _ _ => .EVEX_Vpsraw_xmm_k1z_xmmm128_imm8
  | .EVEX_Vpsraw_ymm_k1z_ymmm256_imm8 _ _ _ => .EVEX_Vpsraw_ymm_k1z_ymmm256_imm8
  | .EVEX_Vpsraw_zmm_k1z_zmmm512_imm8 _ _ _ => .EVEX_Vpsraw_zmm_k1z_zmmm512_imm8
  | .EVEX_Vpsllw_xmm_k1z_xmmm128_imm8 _ _ _ => .EVEX_Vpsllw_xmm_k1z_xmmm128_imm8
  | .EVEX_Vpsllw_ymm_k1z_ymmm256_imm8 _ _ _ => .EVEX_Vpsllw_ymm_k1z_ymmm256_imm8
  | .EVEX_Vpsllw_zmm_k1z_zmmm512_imm8 _ _ _ => .EVEX_Vpsllw_zmm_k1z_zmmm512_imm8
  | .EVEX_Vprord_xmm_k1z_xmmm128b32_imm8 _ _ _ => .EVEX_Vprord_xmm_k1z_xmmm128b32_imm8
  | .EVEX_Vprord_ymm_k1z_ymmm256b32_imm8 _ _ _ => .EVEX_Vprord_ymm_k1z_ymmm256b32_imm8
  | .EVEX_Vprord_zmm_k1z_zmmm512b32_imm8 _ _ _ => .EVEX_Vprord_zmm_k1z_zmmm512b32_imm8
  | .EVEX_Vprorq_xmm_k1z_xmmm128b64_imm8 _ _ _ => .EVEX_Vprorq_xmm_k1z_xmmm128b64_imm8
  | .EVEX_Vprorq_ymm_k1z_ymmm256b64_imm8 _ _ _ => .EVEX_Vprorq_ymm_k1z_ymmm256b64_imm8
  | .EVEX_Vprorq_zmm_k1z_zmmm512b64_imm8 _ _ _ => .EVEX_Vprorq_zmm_k1z_zmmm512b64_imm8
  | .EVEX_Vprold_xmm_k1z_xmmm128b32_imm8 _ _ _ => .EVEX_Vprold_xmm_k1z_xmmm128b32_imm8
  | .EVEX_Vprold_ymm_k1z_ymmm256b32_imm8 _ _ _ => .EVEX_Vprold_ymm_k1z_ymmm256b32_imm8
  | .EVEX_Vprold_zmm_k1z_zmmm512b32_imm8 _ _ _ => .EVEX_Vprold_zmm_k1z_zmmm512b32_imm8
  | .EVEX_Vprolq_xmm_k1z_xmmm128b64_imm8 _ _ _ => .EVEX_Vprolq_xmm_k1z_xmmm128b64_imm8
  | .EVEX_Vprolq_ymm_k1z_ymmm256b64_imm8 _ _ _ => .EVEX_Vprolq_ymm_k1z_ymmm256b64_imm8
  | .EVEX_Vprolq_zmm_k1z_zmmm512b64_imm8 _ _ _ => .EVEX_Vprolq_zmm_k1z_zmmm512b64_imm8
  | .EVEX_Vpsrld_xmm_k1z_xmmm128b32_imm8 _ _ _ => .EVEX_Vpsrld_xmm_k1z_xmmm128b32_imm8
  | .EVEX_Vpsrld_ymm_k1z_ymmm256b32_imm8 _ _ _ => .EVEX_Vpsrld_ymm_k1z_ymmm256b32_imm8
  | .EVEX_Vpsrld_zmm_k1z_zmmm512b32_imm8 _ _ _ => .EVEX_Vpsrld_zmm_k1z_zmmm512b32_imm8
  | .EVEX_Vpsrad_xmm_k1z_xmmm128b32_imm8 _ _ _ => .EVEX_Vpsrad_xmm_k1z_xmmm128b32_imm8
  | .EVEX_Vpsrad_ymm_k1z_ymmm256b32_imm8 _ _ _ => .EVEX_Vpsrad_ymm_k1z_ymmm256b32_imm8
  | .EVEX_Vpsrad_zmm_k1z_zmmm512b32_imm8 _ _ _ => .EVEX_Vpsrad_zmm_k1z_zmmm512b32_imm8
  | .EVEX_Vpsraq_xmm_k1z_xmmm128b64_imm8 _ _ _ => .EVEX_Vpsraq_xmm_k1z_xmmm128b64_imm8
  | .EVEX_Vpsraq_ymm_k1z_ymmm256b64_imm8 _ _ _ => .EVEX_Vpsraq_ymm_k1z_ymmm256b64_imm8
  | .EVEX_Vpsraq_zmm_k1z_zmmm512b64_imm8 _ _ _ => .EVEX_Vpsraq_zmm_k1z_zmmm512b64_imm8
  | .EVEX_Vpslld_xmm_k1z_xmmm128b32_imm8 _ _ _ => .EVEX_Vpslld_xmm_k1z_xmmm128b32_imm8
  | .EVEX_Vpslld_ymm_k1z_ymmm256b32_imm8 _ _ _ => .EVEX_Vpslld_ymm_k1z_ymmm256b32_imm8
  | .EVEX_Vpslld_zmm_k1z_zmmm512b32_imm8 _ _ _ => .EVEX_Vpslld_zmm_k1z_zmmm512b32_imm8
  | .EVEX_Vpsrlq_xmm_k1z_xmmm128b64_imm8 _ _ _ => .EVEX_Vpsrlq_xmm_k1z_xmmm128b64_imm8
  | .EVEX_Vpsrlq_ymm_k1z_ymmm256b64_imm8 _ _ _ => .EVEX_Vpsrlq_ymm_k1z_ymmm256b64_imm8
  | .EVEX_Vpsrlq_zmm_k1z_zmmm512b64_imm8 _ _ _ => .EVEX_Vpsrlq_zmm_k1z_zmmm512b64_imm8
  | .EVEX_Vpsrldq_xmm_xmmm128_imm8 _ _ _ => .EVEX_Vpsrldq_xmm_xmmm128_imm8
  | .EVEX_Vpsrldq_ymm_ymmm256_imm8 _ _ _ => .EVEX_Vpsrldq_ymm_ymmm256_imm8
  | .EVEX_Vpsrldq_zmm_zmmm512_imm8 _ _ _ => .EVEX_Vpsrldq_zmm_zmmm512_imm8
  | .EVEX_Vpsllq_xmm_k1z_xmmm128b64_imm8 _ _ _ => .EVEX_Vpsllq_xmm_k1z_xmmm128b64_imm8
  | .EVEX_Vpsllq_ymm_k1z_ymmm256b64_imm8 _ _ _ => .EVEX_Vpsllq_ymm_k1z_ymmm256b64_imm8
  | .EVEX_Vpsllq_zmm_k1z_zmmm512b64_imm8 _ _ _ => .EVEX_Vpsllq_zmm_k1z_zmmm512b64_imm8
  | .EVEX_Vpslldq_xmm_xmmm128_imm8 _ _ _ => .EVEX_Vpslldq_xmm_xmmm128_imm8
  | .EVEX_Vpslldq_ymm_ymmm256_imm8 _ _ _ => .EVEX_Vpslldq_ymm_ymmm256_imm8
  | .EVEX_Vpslldq_zmm_zmmm512_imm8 _ _ _ => .EVEX_Vpslldq_zmm_zmmm512_imm8
  | .EVEX_Vpcmpeqb_kr_k1_xmm_xmmm128 _ _ _ => .EVEX_Vpcmpeqb_kr_k1_xmm_xmmm128
  | .EVEX_Vpcmpeqb_kr_k1_ymm_ymmm256 _ _ _ => .EVEX_Vpcmpeqb_kr_k1_ymm_ymmm256
  | .EVEX_Vpcmpeqb_kr_k1_zmm_zmmm512 _ _ _ => .EVEX_Vpcmpeqb_kr_k1_zmm_zmmm512
  | .EVEX_Vpcmpeqw_kr_k1_xmm_xmmm128 _ _ _ => .EVEX_Vpcmpeqw_kr_k1_xmm_xmmm128
  | .EVEX_Vpcmpeqw_kr_k1_ymm_ymmm256 _ _ _ => .EVEX_Vpcmpeqw_kr_k1_ymm_ymmm256
  | .EVEX_Vpcmpeqw_kr_k1_zmm_zmmm512 _ _ _ => .EVEX_Vpcmpeqw_kr_k1_zmm_zmmm512
  | .EVEX_Vpcmpeqd_kr_k1_xmm_xmmm128b32 _ _ _ => .EVEX_Vpcmpeqd_kr_k1_xmm_xmmm128b32
  | .EVEX_Vpcmpeqd_kr_k1_ymm_ymmm256b32 _ _ _ => .EVEX_Vpcmpeqd_kr_k1_ymm_ymmm256b32
  | .EVEX_Vpcmpeqd_kr_k1_zmm_zmmm512b32 _ _ _ => .EVEX_Vpcmpeqd_kr_k1_zmm_zmmm512b32
  | .EVEX_Vpshldw_xmm_k1z_xmm_xmmm128_imm8 _ _ _ _ => .EVEX_Vpshldw_xmm_k1z_xmm_xmmm128_imm8
  | .EVEX_Vpshldw_ymm_k1z_ymm_ymmm256_imm8 _ _ _ _ => .EVEX_Vpshldw_ymm_k1z_ymm_ymmm256_imm8
  | .EVEX_Vpshldw_zmm_k1z_zmm_zmmm512_imm8 _ _ _ _ => .EVEX_Vpshldw_zmm_k1z_zmm_zmmm512_imm8
  | .EVEX_Vpshldd_xmm_k1z_xmm_xmmm128b32_imm8 _ _ _ _ => .EVEX_Vpshldd_xmm_k1z_xmm_xmmm128b32_imm8
  | .EVEX_Vpshldd_ymm_k1z_ymm_ymmm256b32_imm8 _ _ _ _ => .EVEX_Vpshldd_ymm_k1z_ymm_ymmm256b32_imm8
  | .EVEX_Vpshldd_zmm_k1z_zmm_zmmm512b32_imm8 _ _ _ _ => .EVEX_Vpshldd_zmm_k1z_zmm_zmmm512b32_imm8
  | .EVEX_Vpshldq_xmm_k1z_xmm_xmmm128b64_imm8 _ _ _ _ => .EVEX_Vpshldq_xmm_k1z_xmm_xmmm128b64_imm8
  | .EVEX_Vpshldq_ymm_k1z_ymm_ymmm256b64_imm8 _ _ _ _ => .EVEX_Vpshldq_ymm_k1z_ymm_ymmm256b64_imm8
  | .EVEX_Vpshldq_zmm_k1z_zmm_zmmm512b64_imm8 _ _ _ _ => .EVEX_Vpshldq_zmm_k1z_zmm_zmmm512b64_imm8
  | .EVEX_Vpshrdw_xmm_k1z_xmm_xmmm128_imm8 _ _ _ _ => .EVEX_Vpshrdw_xmm_k1z_xmm_xmmm128_imm8
  | .EVEX_Vpshrdw_ymm_k1z_ymm_ymmm256_imm8 _ _ _ _ => .EVEX_Vpshrdw_ymm_k1z_ymm_ymmm256_imm8
  | .EVEX_Vpshrdw_zmm_k1z_zmm_zmmm512_imm8 _ _ _ _ => .EVEX_Vpshrdw_zmm_k1z_zmm_zmmm512_imm8
  | .EVEX_Vpshrdd_xmm_k1z_xmm_xmmm128b32_imm8 _ _ _ _ => .EVEX_Vpshrdd_xmm_k1z_xmm_xmmm128b32_imm8
  | .EVEX_Vpshrdd_ymm_k1z_ymm_ymmm256b32_imm8 _ _ _ _ => .EVEX_Vpshrdd_ymm_k1z_ymm_ymmm256b32_imm8
  | .EVEX_Vpshrdd_zmm_k1z_zmm_zmmm512b32_imm8 _ _ _ _ => .EVEX_Vpshrdd_zmm_k1z_zmm_zmmm512b32_imm8
  | .EVEX_Vpshrdq_xmm_k1z_xmm_xmmm128b64_imm8 _ _ _ _ => .EVEX_Vpshrdq_xmm_k1z_xmm_xmmm128b64_imm8
  | .EVEX_Vpshrdq_ymm_k1z_ymm_ymmm256b64_imm8 _ _ _ _ => .EVEX_Vpshrdq_ymm_k1z_ymm_ymmm256b64_imm8
  | .EVEX_Vpshrdq_zmm_k1z_zmm_zmmm512b64_imm8 _ _ _ _ => .EVEX_Vpshrdq_zmm_k1z_zmm_zmmm512b64_imm8

/-- The operand fields of an instruction; those its row has not are at their "absent" values. -/
def Instr.bundle (i : Instr) : Bundle :=
  match i with
  | .Pshufw_mm_mmm64_imm8 p reg rm ib => { Bundle.empty with legacy := p, reg := reg, rm := rm, imm := ib }
  | .Pshufd_xmm_xmmm128_imm8 p reg rm ib => { Bundle.empty with legacy := p, reg := reg, rm := rm, imm := ib }
  | .Pshufhw_xmm_xmmm128_imm8 p reg rm ib => { Bundle.empty with legacy := p, reg := reg, rm := rm, imm := ib }
  | .Pshuflw_xmm_xmmm128_imm8 p reg rm ib => { Bundle.empty with legacy := p, reg := reg, rm := rm, imm := ib }
  | .Psrlw_mm_imm8 p rm ib => { Bundle.empty with legacy := p, rm := .reg rm, imm := ib }
  | .Psrlw_xmm_imm8 p rm ib => { Bundle.empty with legacy := p, rm := .reg rm, imm := ib }
  | .Psraw_mm_imm8 p rm ib => { Bundle.empty with legacy := p, rm := .reg rm, imm := ib }
  | .Psraw_xmm_imm8 p rm ib => { Bundle.empty with legacy := p, rm := .reg rm, imm := ib }
  | .Psllw_mm_imm8 p rm ib => { Bundle.empty with legacy := p, rm := .reg rm, imm := ib }
  | .Psllw_xmm_imm8 p rm ib => { Bundle.empty with legacy := p, rm := .reg rm, imm := ib }
  | .Psrld_mm_imm8 p rm ib => { Bundle.empty with legacy := p, rm := .reg rm, imm := ib }
  | .Psrld_xmm_imm8 p rm ib => { Bundle.empty with legacy := p, rm := .reg rm, imm := ib }
  | .Psrad_mm_imm8 p rm ib => { Bundle.empty with legacy := p, rm := .reg rm, imm := ib }
  | .Psrad_xmm_imm8 p rm ib => { Bundle.empty with legacy := p, rm := .reg rm, imm := ib }
  | .Pslld_mm_imm8 p rm ib => { Bundle.empty with legacy := p, rm := .reg rm, imm := ib }
  | .Pslld_xmm_imm8 p rm ib => { Bundle.empty with legacy := p, rm := .reg rm, imm := ib }
  | .Psrlq_mm_imm8 p rm ib => { Bundle.empty with legacy := p, rm := .reg rm, imm := ib }
  | .Psrlq_xmm_imm8 p rm ib => { Bundle.empty with legacy := p, rm := .reg rm, imm := ib }
  | .Psrldq_xmm_imm8 p rm ib => { Bundle.empty with legacy := p, rm := .reg rm, imm := ib }
  | .Psllq_mm_imm8 p rm ib => { Bundle.empty with legacy := p, rm := .reg rm, imm := ib }
  | .Psllq_xmm_imm8 p rm ib => { Bundle.empty with legacy := p, rm := .reg rm, imm := ib }
  | .Pslldq_xmm_imm8 p rm ib => { Bundle.empty with legacy := p, rm := .reg rm, imm := ib }
  | .Pcmpeqb_mm_mmm64 p reg rm => { Bundle.empty with legacy := p, reg := reg, rm := rm }
  | .Pcmpeqb_xmm_xmmm128 p reg rm => { Bundle.empty with legacy := p, reg := reg, rm := rm }
  | .Pcmpeqw_mm_mmm64 p reg rm => { Bundle.empty with legacy := p, reg := reg, rm := rm }
  | .Pcmpeqw_xmm_xmmm128 p reg rm => { Bundle.empty with legacy := p, reg := reg, rm := rm }
  | .Pcmpeqd_mm_mmm64 p reg rm => { Bundle.empty with legacy := p, reg := reg, rm := rm }
  | .Pcmpeqd_xmm_xmmm128 p reg rm => { Bundle.empty with legacy := p, reg := reg, rm := rm }
  | .Emms p => { Bundle.empty with legacy := p }
  | .VEX_Vpshufd_xmm_xmmm128_imm8 p reg rm ib => { Bundle.empty with vex := p, reg := reg, rm := rm, imm := ib }
  | .VEX_Vpshufd_ymm_ymmm256_imm8 p reg rm ib => { Bundle.empty with vex := p, reg := reg, rm := rm, imm := ib }
  | .VEX_Vpshufhw_xmm_xmmm128_imm8 p reg rm ib => { Bundle.empty with vex := p, reg := reg, rm := rm, imm := ib }
  | .VEX_Vpshufhw_ymm_ymmm256_imm8 p reg rm ib => { Bundle.empty with vex := p, reg := reg, rm := rm, imm := ib }
  | .VEX_Vpshuflw_xmm_xmmm128_imm8 p reg rm ib => { Bundle.empty with vex := p, reg := reg, rm := rm, imm := ib }
  | .VEX_Vpshuflw_ymm_ymmm256_imm8 p reg rm ib => { Bundle.empty with vex := p, reg := reg, rm := rm, imm := ib }
  | .VEX_Vpsrlw_xmm_xmm_imm8 p rm ib => { Bundle.empty with vex := p, rm := .reg rm, imm := ib }
  | .VEX_Vpsrlw_ymm_ymm_imm8 p rm ib => { Bundle.empty with vex := p, rm := .reg rm, imm := ib }
  | .VEX_Vpsraw_xmm_xmm_imm8 p rm ib => { Bundle.empty with vex := p, rm := .reg rm, imm := ib }
  | .VEX_Vpsraw_ymm_ymm_imm8 p rm ib => { Bundle.empty with vex := p, rm := .reg rm, imm := ib }
  | .VEX_Vpsllw_xmm_xmm_imm8 p rm ib => { Bundle.empty with vex := p, rm := .reg rm, imm := ib }
  | .VEX_Vpsllw_ymm_ymm_imm8 p rm ib => { Bundle.empty with vex := p, rm := .reg rm, imm := ib }
  | .VEX_Vpsrld_xmm_xmm_imm8 p rm ib => { Bundle.empty with vex := p, rm := .reg rm, imm := ib }
  | .VEX_Vpsrld_ymm_ymm_imm8 p rm ib => { Bundle.empty with vex := p, rm := .reg rm, imm := ib }
  | .VEX_Vpsrad_xmm_xmm_imm8 p rm ib => { Bundle.empty with vex := p, rm := .reg rm, imm := ib }
  | .VEX_Vpsrad_ymm_ymm_imm8 p rm ib => { Bundle.empty with vex := p, rm := .reg rm, imm := ib }
  | .VEX_Vpslld_xmm_xmm_imm8 p rm ib => { Bundle.empty with vex := p, rm := .reg rm, imm := ib }
  | .VEX_Vpslld_ymm_ymm_imm8 p rm ib => { Bundle.empty with vex := p, rm := .reg rm, imm := ib }
  | .VEX_Vpsrlq_xmm_xmm_imm8 p rm ib => { Bundle.empty with vex := p, rm := .reg rm, imm := ib }
  | .VEX_Vpsrlq_ymm_ymm_imm8 p rm ib => { Bundle.empty with vex := p, rm := .reg rm, imm := ib }
  | .VEX_Vpsrldq_xmm_xmm_imm8 p rm ib => { Bundle.empty with vex := p, rm := .reg rm, imm := ib }
  | .VEX_Vpsrldq_ymm_ymm_imm8 p rm ib => { Bundle.empty with vex := p, rm := .reg rm, imm := ib }
  | .VEX_Vpsllq_xmm_xmm_imm8 p rm ib => { Bundle.empty with vex := p, rm := .reg rm, imm := ib }
  | .VEX_Vpsllq_ymm_ymm_imm8 p rm ib => { Bundle.empty with vex := p, rm := .reg rm, imm := ib }
  | .VEX_Vpslldq_xmm_xmm_imm8 p rm ib => { Bundle.empty with vex := p, rm := .reg rm, imm := ib }
  | .VEX_Vpslldq_ymm_ymm_imm8 p rm ib => { Bundle.empty with vex := p, rm := .reg rm, imm := ib }
  | .VEX_Vpcmpeqb_xmm_xmm_xmmm128 p reg rm => { Bundle.empty with vex := p, reg := reg, rm := rm }
  | .VEX_Vpcmpeqb_ymm_ymm_ymmm256 p reg rm => { Bundle.empty with vex := p, reg := reg, rm := rm }
  | .VEX_Vpcmpeqw_xmm_xmm_xmmm128 p reg rm => { Bundle.empty with vex := p, reg := reg, rm := rm }
  | .VEX_Vpcmpeqw_ymm_ymm_ymmm256 p reg rm => { Bundle.empty with vex := p, reg := reg, rm := rm }
  | .VEX_Vpcmpeqd_xmm_xmm_xmmm128 p reg rm => { Bundle.empty with vex := p, reg := reg, rm := rm }
  | .VEX_Vpcmpeqd_ymm_ymm_ymmm256 p reg rm => { Bundle.empty with vex := p, reg := reg, rm := rm }
  | .VEX_Vzeroupper p => { Bundle.empty with vex := p }
  | .VEX_Vzeroall p => { Bundle.empty with vex := p }
  | .EVEX_Vpshufd_xmm_k1z_xmmm128b32_imm8 p reg rm ib => { Bundle.empty with evex := p, reg := reg, rm := rm, imm := ib }
  | .EVEX_Vpshufd_ymm_k1z_ymmm256b32_imm8 p reg rm ib => { Bundle.empty with evex := p, reg := reg, rm := rm, imm := ib }
  | .EVEX_Vpshufd_zmm_k1z_zmmm512b32_imm8 p reg rm ib => { Bundle.empty with evex := p, reg := reg, rm := rm, imm := ib }
  | .EVEX_Vpshufhw_xmm_k1z_xmmm128_imm8 p reg rm ib => { Bundle.empty with evex := p, reg := reg, rm := rm, imm := ib }
  | .EVEX_Vpshufhw_ymm_k1z_ymmm256_imm8 p reg rm ib => { Bundle.empty with evex := p, reg := reg, rm := rm, imm := ib }
  | .EVEX_Vpshufhw_zmm_k1z_zmmm512_imm8 p reg rm ib => { Bundle.empty with evex := p, reg := reg, rm := rm, imm := ib }
  | .EVEX_Vpshuflw_xmm_k1z_xmmm128_imm8 p reg rm ib => { Bundle.empty with evex := p, reg := reg, rm := rm, imm := ib }
  | .EVEX_Vpshuflw_ymm_k1z_ymmm256_imm8 p reg rm ib => { Bundle.empty with evex := p, reg := reg, rm := rm, imm := ib }
  | .EVEX_Vpshuflw_zmm_k1z_zmmm512_imm8 p reg rm ib => { Bundle.empty with evex := p, reg := reg, rm := rm, imm := ib }
  | .EVEX_Vpsrlw_xmm_k1z_xmmm128_imm8 p rm ib => { Bundle.empty with evex := p, rm := rm, imm := ib }
  | .EVEX_Vpsrlw_ymm_k1z_ymmm256_imm8 p rm ib => { Bundle.empty with evex := p, rm := rm, imm := ib }
  | .EVEX_Vpsrlw_zmm_k1z_zmmm512_imm8 p rm ib => { Bundle.empty with evex := p, rm := rm, imm := ib }
  | .EVEX_Vpsraw_xmm_k1z_xmmm128_imm8 p rm ib => { Bundle.empty with evex := p, rm := rm, imm := ib }
  | .EVEX_Vpsraw_ymm_k1z_ymmm256_imm8 p rm ib => { Bundle.empty with evex := p, rm := rm, imm := ib }
  | .EVEX_Vpsraw_zmm_k1z_zmmm512_imm8 p rm ib => { Bundle.empty with evex := p, rm := rm, imm := ib }
  | .EVEX_Vpsllw_xmm_k1z_xmmm128_imm8 p rm ib => { Bundle.empty with evex := p, rm := rm, imm := ib }
  | .EVEX_Vpsllw_ymm_k1z_ymmm256_imm8 p rm ib => { Bundle.empty with evex := p, rm := rm, imm := ib }
  | .EVEX_Vpsllw_zmm_k1z_zmmm512_imm8 p rm ib => { Bundle.empty with evex := p, rm := rm, imm := ib }
  | .EVEX_Vprord_xmm_k1z_xmmm128b32_imm8 p rm ib => { Bundle.empty with evex := p, rm := rm, imm := ib }
  | .EVEX_Vprord_ymm_k1z_ymmm256b32_imm8 p rm ib => { Bundle.empty with evex := p, rm := rm, imm := ib }
  | .EVEX_Vprord_zmm_k1z_zmmm512b32_imm8 p rm ib => { Bundle.empty with evex := p, rm := rm, imm := ib }
  | .EVEX_Vprorq_xmm_k1z_xmmm128b64_imm8 p rm ib => { Bundle.empty with evex := p, rm := rm, imm := ib }
  | .EVEX_Vprorq_ymm_k1z_ymmm256b64_imm8 p rm ib => { Bundle.empty with evex := p, rm := rm, imm := ib }
  | .EVEX_Vprorq_zmm_k1z_zmmm512b64_imm8 p rm ib => { Bundle.empty with evex := p, rm := rm, imm := ib }
  | .EVEX_Vprold_xmm_k1z_xmmm128b32_imm8 p rm ib => { Bundle.empty with evex := p, rm := rm, imm := ib }
  | .EVEX_Vprold_ymm_k1z_ymmm256b32_imm8 p rm ib => { Bundle.empty with evex := p, rm := rm, imm := ib }
  | .EVEX_Vprold_zmm_k1z_zmmm512b32_imm8 p rm ib => { Bundle.empty with evex := p, rm := rm, imm := ib }
  | .EVEX_Vprolq_xmm_k1z_xmmm128b64_imm8 p rm ib => { Bundle.empty with evex := p, rm := rm, imm := ib }
  | .EVEX_Vprolq_ymm_k1z_ymmm256b64_imm8 p rm ib => { Bundle.empty with evex := p, rm := rm, imm := ib }
  | .EVEX_Vprolq_zmm_k1z_zmmm512b64_imm8 p rm ib => { Bundle.empty with evex := p, rm := rm, imm := ib }
  | .EVEX_Vpsrld_xmm_k1z_xmmm128b32_imm8 p rm ib => { Bundle.empty with evex := p, rm := rm, imm := ib }
  | .EVEX_Vpsrld_ymm_k1z_ymmm256b32_imm8 p rm ib => { Bundle.empty with evex := p, rm := rm, imm := ib }
  | .EVEX_Vpsrld_zmm_k1z_zmmm512b32_imm8 p rm ib => { Bundle.empty with evex := p, rm := rm, imm := ib }
  | .EVEX_Vpsrad_xmm_k1z_xmmm128b32_imm8 p rm ib => { Bundle.empty with evex := p, rm := rm, imm := ib }
  | .EVEX_Vpsrad_ymm_k1z_ymmm256b32_imm8 p rm ib => { Bundle.empty with evex := p, rm := rm, imm := ib }
  | .EVEX_Vpsrad_zmm_k1z_zmmm512b32_imm8 p rm ib => { Bundle.empty with evex := p, rm := rm, imm := ib }
  | .EVEX_Vpsraq_xmm_k1z_xmmm128b64_imm8 p rm ib => { Bundle.empty with evex := p, rm := rm, imm := ib }
  | .EVEX_Vpsraq_ymm_k1z_ymmm256b64_imm8 p rm ib => { Bundle.empty with evex := p, rm := rm, imm := ib }
  | .EVEX_Vpsraq_zmm_k1z_zmmm512b64_imm8 p rm ib => { Bundle.empty with evex := p, rm := rm, imm := ib }
  | .EVEX_Vpslld_xmm_k1z_xmmm128b32_imm8 p rm ib => { Bundle.empty with evex := p, rm := rm, imm := ib }
  | .EVEX_Vpslld_ymm_k1z_ymmm256b32_imm8 p rm ib => { Bundle.empty with evex := p, rm := rm, imm := ib }
  | .EVEX_Vpslld_zmm_k1z_zmmm512b32_imm8 p rm ib => { Bundle.empty with evex := p, rm := rm, imm := ib }
  | .EVEX_Vpsrlq_xmm_k1z_xmmm128b64_imm8 p rm ib => { Bundle.empty with evex := p, rm := rm, imm := ib }
  | .EVEX_Vpsrlq_ymm_k1z_ymmm256b64_imm8 p rm ib => { Bundle.empty with evex := p, rm := rm, imm := ib }
  | .EVEX_Vpsrlq_zmm_k1z_zmmm512b64_imm8 p rm ib => { Bundle.empty with evex := p, rm := rm, imm := ib }
  | .EVEX_Vpsrldq_xmm_xmmm128_imm8 p rm ib => { Bundle.empty with evex := p, rm := rm, imm := ib }
  | .EVEX_Vpsrldq_ymm_ymmm256_imm8 p rm ib => { Bundle.empty with evex := p, rm := rm, imm := ib }
  | .EVEX_Vpsrldq_zmm_zmmm512_imm8 p rm ib => { Bundle.empty with evex := p, rm := rm, imm := ib }
  | .EVEX_Vpsllq_xmm_k1z_xmmm128b64_imm8 p rm ib => { Bundle.empty with evex := p, rm := rm, imm := ib }
  | .EVEX_Vpsllq_ymm_k1z_ymmm256b64_imm8 p rm ib => { Bundle.empty with evex := p, rm := rm, imm := ib }
  | .EVEX_Vpsllq_zmm_k1z_zmmm512b64_imm8 p rm ib => { Bundle.empty with evex := p, rm := rm, imm := ib }
  | .EVEX_Vpslldq_xmm_xmmm128_imm8 p rm ib => { Bundle.empty with evex := p, rm := rm, imm := ib }
  | .EVEX_Vpslldq_ymm_ymmm256_imm8 p rm ib => { Bundle.empty with evex := p, rm := rm, imm := ib }
  | .EVEX_Vpslldq_zmm_zmmm512_imm8 p rm ib => { Bundle.empty with evex := p, rm := rm, imm := ib }
  | .EVEX_Vpcmpeqb_kr_k1_xmm_xmmm128 p reg rm => { Bundle.empty with evex := p, reg := reg, rm := rm }
  | .EVEX_Vpcmpeqb_kr_k1_ymm_ymmm256 p reg rm => { Bundle.empty with evex := p, reg := reg, rm := rm }
  | .EVEX_Vpcmpeqb_kr_k1_zmm_zmmm512 p reg rm => { Bundle.empty with evex := p, reg := reg, rm := rm }
  | .EVEX_Vpcmpeqw_kr_k1_xmm_xmmm128 p reg rm => { Bundle.empty with evex := p, reg := reg, rm := rm }
  | .EVEX_Vpcmpeqw_kr_k1_ymm_ymmm256 p reg rm => { Bundle.empty with evex := p, reg := reg, rm := rm }
  | .EVEX_Vpcmpeqw_kr_k1_zmm_zmmm512 p reg rm => { Bundle.empty with evex := p, reg := reg, rm := rm }
  | .EVEX_Vpcmpeqd_kr_k1_xmm_xmmm128b32 p reg rm => { Bundle.empty with evex := p, reg := reg, rm := rm }
  | .EVEX_Vpcmpeqd_kr_k1_ymm_ymmm256b32 p reg rm => { Bundle.empty with evex := p, reg := reg, rm := rm }
  | .EVEX_Vpcmpeqd_kr_k1_zmm_zmmm512b32 p reg rm => { Bundle.empty with evex := p, reg := reg, rm := rm }
  | .EVEX_Vpshldw_xmm_k1z_xmm_xmmm128_imm8 p reg rm ib => { Bundle.empty with evex := p, reg := reg, rm := rm, imm := ib }
  | .EVEX_Vpshldw_ymm_k1z_ymm_ymmm256_imm8 p reg rm ib => { Bundle.empty with evex := p, reg := reg, rm := rm, imm := ib }
  | .EVEX_Vpshldw_zmm_k1z_zmm_zmmm512_imm8 p reg rm ib => { Bundle.empty with evex := p, reg := reg, rm := rm, imm := ib }
  | .EVEX_Vpshldd_xmm_k1z_xmm_xmmm128b32_imm8 p reg rm ib => { Bundle.empty with evex := p, reg := reg, rm := rm, imm := ib }
  | .EVEX_Vpshldd_ymm_k1z_ymm_ymmm256b32_imm8 p reg rm ib => { Bundle.empty with evex := p, reg := reg, rm := rm, imm := ib }
  | .EVEX_Vpshldd_zmm_k1z_zmm_zmmm512b32_imm8 p reg rm ib => { Bundle.empty with evex := p, reg := reg, rm := rm, imm := ib }
  | .EVEX_Vpshldq_xmm_k1z_xmm_xmmm128b64_imm8 p reg rm ib => { Bundle.empty with evex := p, reg := reg, rm := rm, imm := ib }
  | .EVEX_Vpshldq_ymm_k1z_ymm_ymmm256b64_imm8 p reg rm ib => { Bundle.empty with evex := p, reg := reg, rm := rm, imm := ib }
  | .EVEX_Vpshldq_zmm_k1z_zmm_zmmm512b64_imm8 p reg rm ib => { Bundle.empty with evex := p, reg := reg, rm := rm, imm := ib }
  | .EVEX_Vpshrdw_xmm_k1z_xmm_xmmm128_imm8 p reg rm ib => { Bundle.empty with evex := p, reg := reg, rm := rm, imm := ib }
  | .EVEX_Vpshrdw_ymm_k1z_ymm_ymmm256_imm8 p reg rm ib => { Bundle.empty with evex := p, reg := reg, rm := rm, imm := ib }
  | .EVEX_Vpshrdw_zmm_k1z_zmm_zmmm512_imm8 p reg rm ib => { Bundle.empty with evex := p, reg := reg, rm := rm, imm := ib }
  | .EVEX_Vpshrdd_xmm_k1z_xmm_xmmm128b32_imm8 p reg rm ib => { Bundle.empty with evex := p, reg := reg, rm := rm, imm := ib }
  | .EVEX_Vpshrdd_ymm_k1z_ymm_ymmm256b32_imm8 p reg rm ib => { Bundle.empty with evex := p, reg := reg, rm := rm, imm := ib }
  | .EVEX_Vpshrdd_zmm_k1z_zmm_zmmm512b32_imm8 p reg rm ib => { Bundle.empty with evex := p, reg := reg, rm := rm, imm := ib }
  | .EVEX_Vpshrdq_xmm_k1z_xmm_xmmm128b64_imm8 p reg rm ib => { Bundle.empty with evex := p, reg := reg, rm := rm, imm := ib }
  | .EVEX_Vpshrdq_ymm_k1z_ymm_ymmm256b64_imm8 p reg rm ib => { Bundle.empty with evex := p, reg := reg, rm := rm, imm := ib }
  | .EVEX_Vpshrdq_zmm_k1z_zmm_zmmm512b64_imm8 p reg rm ib => { Bundle.empty with evex := p, reg := reg, rm := rm, imm := ib }

end Sys2Proof
end

