-- ==== Sys2Proof/Machine/Operands.lean ====
section
/-! DEFINITION. Operand decode: register folding (spec/43_vex_evex_fields.md R194), the address size, the 16-bit table,
SIB and the displacement (spec/42_modrm_sib_disp.md R151 to R163), the stored displacement (R196), the register names
(spec/10_state.md R35, R36), and the bit fields of ModRM and SIB (spec/30_encoding.md R77, R78). -/

namespace Sys2Proof.Machine

open Sys2Proof

/-- R77: `mod` = bits [7:6] of ModRM. -/
def modField (m : Byte) : BitVec 2 := m.extractLsb' 6 2

/-- R77: `reg` = bits [5:3] of ModRM. -/
def regField (m : Byte) : BitVec 3 := m.extractLsb' 3 3

/-- R77: `rm` = bits [2:0] of ModRM. -/
def rmField (m : Byte) : BitVec 3 := m.extractLsb' 0 3

/-- R78: `scale` = bits [7:6] of SIB. -/
def sibScale (s : Byte) : BitVec 2 := s.extractLsb' 6 2

/-- R78: `index` = bits [5:3] of SIB. -/
def sibIndex (s : Byte) : BitVec 3 := s.extractLsb' 3 3

/-- R78: `base` = bits [2:0] of SIB. -/
def sibBase (s : Byte) : BitVec 3 := s.extractLsb' 0 3

/-- R194: a vector or MMX register from its 3-bit field and the two extension bits before it, high bit first. An MM
register has no extension bits (REX is ignored, D25). -/
def vectorReg (cls : RegClass) (hi lo : Bool) (v : BitVec 3) : Register :=
  match cls with
  | .MM => .mm v
  | .XMM => .xmm (BitVec.ofBool hi ++ BitVec.ofBool lo ++ v)
  | .YMM => .ymm (BitVec.ofBool hi ++ BitVec.ofBool lo ++ v)
  | .ZMM => .zmm (BitVec.ofBool hi ++ BitVec.ofBool lo ++ v)

/-- R194, row "reg": `REGIDX` is `R:reg`, with EVEX `R':R:reg`. -/
def regOperand (cls : RegClass) (ps : PrefixState) (reg : BitVec 3) : Register :=
  match ps.space with
  | .Legacy => vectorReg cls false ps.R reg
  | .VEX2 => vectorReg cls false ps.R reg
  | .VEX3 => vectorReg cls false ps.R reg
  | .EVEX => vectorReg cls ps.Rp ps.R reg

/-- R194, row "rm register": `RMIDX` is `B:rm`, with EVEX `X:B:rm`. -/
def rmOperandReg (cls : RegClass) (ps : PrefixState) (rm : BitVec 3) : Register :=
  match ps.space with
  | .Legacy => vectorReg cls false ps.B rm
  | .VEX2 => vectorReg cls false ps.B rm
  | .VEX3 => vectorReg cls false ps.B rm
  | .EVEX => vectorReg cls ps.X ps.B rm

/-- R188, R194, row "vvvv": `VVIDX` is `vvvv`, with EVEX `V':vvvv`. -/
def vvvvOperand (cls : RegClass) (ps : PrefixState) : Register :=
  match ps.space with
  | .Legacy => vectorReg cls false (ps.vvvv.getLsbD 3) (ps.vvvv.extractLsb' 0 3)
  | .VEX2 => vectorReg cls false (ps.vvvv.getLsbD 3) (ps.vvvv.extractLsb' 0 3)
  | .VEX3 => vectorReg cls false (ps.vvvv.getLsbD 3) (ps.vvvv.extractLsb' 0 3)
  | .EVEX => vectorReg cls ps.Vp (ps.vvvv.getLsbD 3) (ps.vvvv.extractLsb' 0 3)

/-- R151: the address size, from the bitness and 0x67. -/
def addrSize (bt : Bitness) (adsize : Bool) : AddrSize :=
  match bt, adsize with
  | .b16, false => .a16
  | .b16, true => .a32
  | .b32, false => .a32
  | .b32, true => .a16
  | .b64, false => .a64
  | .b64, true => .a32

/-- R156, R164: `Reg(GPR_AS, e:v)`; 16-bit addressing uses no extension bit (R154). -/
def addrReg (as : AddrSize) (e : Bool) (v : BitVec 3) : Register :=
  match as with
  | .a16 => .gpr16 (BitVec.ofBool e ++ v)
  | .a32 => .gpr32 (BitVec.ofBool e ++ v)
  | .a64 => .gpr64 (BitVec.ofBool e ++ v)

/-- R154: base and index of 16-bit addressing, by rm (the table for mod = 01 and 10; for mod = 00 see `memWork`). -/
def table16 (rm : BitVec 3) : Option Register × Option Register :=
  match rm.toNat with
  | 0 => (some (.gpr16 3), some (.gpr16 6))
  | 1 => (some (.gpr16 3), some (.gpr16 7))
  | 2 => (some (.gpr16 5), some (.gpr16 6))
  | 3 => (some (.gpr16 5), some (.gpr16 7))
  | 4 => (some (.gpr16 6), none)
  | 5 => (some (.gpr16 7), none)
  | 6 => (some (.gpr16 5), none)
  | _ => (some (.gpr16 3), none)

/-- R157: whether a SIB byte follows ModRM (for mod other than 11). -/
def needsSib (as : AddrSize) (rm : BitVec 3) : Bool :=
  decide (as ≠ .a16) && decide (rm = 4)

/-- R159, R160: the no-base forms of 32- and 64-bit addressing, which a 4-byte displacement follows. -/
def noBase32 (mod : BitVec 2) (rm : BitVec 3) (sib : Option Byte) : Bool :=
  decide (mod = 0) &&
    match sib with
    | some s => decide (sibBase s = 5)
    | none => decide (rm = 5)

/-- R155, R161: the size in bytes of the displacement (for mod other than 11). -/
def dispSizeOf (as : AddrSize) (mod : BitVec 2) (rm : BitVec 3) (sib : Option Byte) : Nat :=
  match as with
  | .a16 => if mod = 1 then 1 else if mod = 2 then 2 else if rm = 6 then 2 else 0
  | .a32 => if mod = 1 then 1 else if mod = 2 || noBase32 mod rm sib then 4 else 0
  | .a64 => if mod = 1 then 1 else if mod = 2 || noBase32 mod rm sib then 4 else 0

/-- R154: the memory operand of 16-bit addressing. -/
def memWork16 (mod : BitVec 2) (rm : BitVec 3) : MemWork :=
  if mod = 0 && rm = 6 then { as := .a16, base := none, index := none, scale := 1 }
  else { as := .a16, base := (table16 rm).1, index := (table16 rm).2, scale := 1 }

/-- R158: the index register and the scale that a SIB byte names. -/
def sibIndexScale (as : AddrSize) (X : Bool) (s : Byte) : Option Register × Nat :=
  if sibIndex s = 4 && !X then (none, 1) else (some (addrReg as X (sibIndex s)), 2 ^ (sibScale s).toNat)

/-- R159: the base register that a SIB byte names. -/
def sibBaseReg (as : AddrSize) (mod : BitVec 2) (B : Bool) (s : Byte) : Option Register :=
  if sibBase s = 5 && mod = 0 then none else some (addrReg as B (sibBase s))

/-- R156, R160: the base register without a SIB byte. -/
def rmBaseReg (bt : Bitness) (as : AddrSize) (mod : BitVec 2) (B : Bool) (rm : BitVec 3) : Option Register :=
  if rm = 5 && mod = 0 then
    (if bt = .b64 then (if as = .a64 then some .rip else some .eip) else none)
  else some (addrReg as B rm)

/-- R156 to R160: the memory operand of 32- and 64-bit addressing. -/
def memWork32 (bt : Bitness) (as : AddrSize) (X B : Bool) (mod : BitVec 2) (rm : BitVec 3) (sib : Option Byte) :
    MemWork :=
  match sib with
  | some s =>
    { as, base := sibBaseReg as mod B s, index := (sibIndexScale as X s).1, scale := (sibIndexScale as X s).2 }
  | none => { as, base := rmBaseReg bt as mod B rm, index := none, scale := 1 }

/-- R154 to R160, R169: `md` of a memory operand. -/
def memWork (bt : Bitness) (as : AddrSize) (X B : Bool) (mod : BitVec 2) (rm : BitVec 3) (sib : Option Byte) : MemWork :=
  match as with
  | .a16 => memWork16 mod rm
  | .a32 => memWork32 bt .a32 X B mod rm sib
  | .a64 => memWork32 bt .a64 X B mod rm sib

/-- R155, R161: the encoded size of a displacement. -/
def dispSize (d : Disp) : Nat :=
  match d with
  | .none => 0
  | .d8 _ => 1
  | .d16 _ => 2
  | .d32 _ => 4

/-- R162: `disp_raw`, the displacement sign-extended to an integer. -/
def dispRaw (d : Disp) : Int :=
  match d with
  | .none => 0
  | .d8 v => v.toInt
  | .d16 v => v.toInt
  | .d32 v => v.toInt

/-- R162 read backwards: the displacement of `size` bytes whose sign-extended value is `raw`. -/
def dispOf (size : Nat) (raw : Int) : Disp :=
  match size with
  | 1 => .d8 (BitVec.ofInt 8 raw)
  | 2 => .d16 (BitVec.ofInt 16 raw)
  | 4 => .d32 (BitVec.ofInt 32 raw)
  | _ => .none

/-- R196: `MemoryDisplacement`: `disp_raw * N` truncated to 16 bits with 16-bit addressing and to 32 bits otherwise. -/
def memoryDisplacement (as : AddrSize) (raw : Int) (n : Nat) : BitVec 32 :=
  match as with
  | .a16 => (BitVec.ofInt 16 (raw * n)).setWidth 32
  | .a32 => BitVec.ofInt 32 (raw * n)
  | .a64 => BitVec.ofInt 32 (raw * n)

/-- R35: the names of the 16-bit general registers, by index. -/
def gpr16Names : List String :=
  ["AX", "CX", "DX", "BX", "SP", "BP", "SI", "DI", "R8W", "R9W", "R10W", "R11W", "R12W", "R13W", "R14W", "R15W"]

/-- R35: the names of the 32-bit general registers, by index. -/
def gpr32Names : List String :=
  ["EAX", "ECX", "EDX", "EBX", "ESP", "EBP", "ESI", "EDI", "R8D", "R9D", "R10D", "R11D", "R12D", "R13D", "R14D", "R15D"]

/-- R35: the names of the 64-bit general registers, by index. -/
def gpr64Names : List String :=
  ["RAX", "RCX", "RDX", "RBX", "RSP", "RBP", "RSI", "RDI", "R8", "R9", "R10", "R11", "R12", "R13", "R14", "R15"]

/-- R36: the names of the segment registers. -/
def segName (s : SegReg) : String :=
  match s with
  | .ES => "ES"
  | .CS => "CS"
  | .SS => "SS"
  | .DS => "DS"
  | .FS => "FS"
  | .GS => "GS"

/-- R35, R36: the name of a register. -/
def registerName (r : Register) : String :=
  match r with
  | .gpr16 i => gpr16Names.getD i.toNat ""
  | .gpr32 i => gpr32Names.getD i.toNat ""
  | .gpr64 i => gpr64Names.getD i.toNat ""
  | .mm i => "MM" ++ toString i.toNat
  | .xmm i => "XMM" ++ toString i.toNat
  | .ymm i => "YMM" ++ toString i.toNat
  | .zmm i => "ZMM" ++ toString i.toNat
  | .k i => "K" ++ toString i.toNat
  | .seg s => segName s
  | .rip => "RIP"
  | .eip => "EIP"

end Sys2Proof.Machine
end

