-- ==== Sys2Proof/WellFormed.lean ====
section
/-! DEFINITION. Which instructions can be written in bytes: `Instr.wf` says that the encoding fields fit one another, the
row and the bitness (spec/30_encoding.md R70 to R80), so that `encode` writes them and the decoder reads them back;
`Instr.legal` says that the field checks of spec/43_vex_evex_fields.md R187 to R193 and the LOCK check of R133 pass. -/

namespace Sys2Proof

open Sys2Proof.Machine

/-- 1 for a prefix byte that is present. -/
def byteIf (b : Bool) : Nat := if b then 1 else 0

/-- R70: the bytes of a legacy instruction's prefixes, escape and opcode. -/
def LegacyPrefix.byteCount (p : LegacyPrefix) (m : OpMap) : Nat :=
  byteIf p.seg.isSome + byteIf p.opsize + byteIf p.adsize + byteIf p.lock + byteIf p.rep.isSome + byteIf p.rex.isSome +
    (if m = .m0F then 2 else 3)

/-- R70, R73, R74: the bytes of a VEX instruction's prefixes and opcode. -/
def VexPrefix.byteCount (p : VexPrefix) : Nat :=
  byteIf p.seg.isSome + byteIf p.adsize + (if p.three then 4 else 3)

/-- R70, R75: the bytes of an EVEX instruction's prefixes and opcode. -/
def EvexPrefix.byteCount (p : EvexPrefix) : Nat :=
  byteIf p.seg.isSome + byteIf p.adsize + 5

/-- R77 to R79: the bytes of ModRM, SIB and displacement. -/
def RMOperand.byteCount (rm : RMOperand) : Nat :=
  match rm with
  | .reg _ => 1
  | .mem _ _ sib d => 1 + byteIf sib.isSome + dispSize d

/-- R70, R89: the length in bytes of an instruction. -/
def Instr.byteCount (i : Instr) : Nat :=
  (match (row i.code).space with
    | .Legacy => i.bundle.legacy.byteCount (row i.code).map
    | .VEX => i.bundle.vex.byteCount
    | .EVEX => i.bundle.evex.byteCount) +
  (if (row i.code).shape = .NONE then 0 else i.bundle.rm.byteCount) +
  byteIf (row i.code).shape.hasImm8

/-- R77 to R79, R155, R157, R161: an rm operand whose SIB byte and displacement are those that its ModRM byte calls for. -/
def RMOperand.wf (as : AddrSize) (rm : RMOperand) : Bool :=
  match rm with
  | .reg _ => true
  | .mem mod r sib d =>
    decide (mod ≠ 3) && decide (sib.isSome = needsSib as r) && decide (dispSize d = dispSizeOf as mod r sib)

/-- R71, R72, R118: a legacy prefix set that selects mandatory prefix `mp` and can stand in this bitness. -/
def LegacyPrefix.wf (bt : Bitness) (mp : Mp) (p : LegacyPrefix) : Bool :=
  decide (legacyMp p.rep p.opsize = mp) && (p.rex.isNone || decide (bt = .b64))

/-- R73, R74, R107, R117: VEX fields that the form has (VEX2 has no X, B, W) and that this bitness keeps. -/
def VexPrefix.wf (bt : Bitness) (p : VexPrefix) : Bool :=
  (p.three || (!p.X && !p.B && !p.W)) &&
  (decide (bt = .b64) || (!p.R && !p.X && !p.B && (p.three || !p.vvvv.getLsbD 3)))

/-- R75, R107, R117, R136: EVEX fields that this bitness keeps, with the W that the row needs. -/
def EvexPrefix.wf (bt : Bitness) (w : WSel) (p : EvexPrefix) : Bool :=
  w.admits p.W && (decide (bt = .b64) || (!p.R && !p.X && !p.B && !p.Rp))

/-- The 0x67 prefix of an instruction (R71). -/
def Instr.adsize (i : Instr) : Bool :=
  match (row i.code).space with
  | .Legacy => i.bundle.legacy.adsize
  | .VEX => i.bundle.vex.adsize
  | .EVEX => i.bundle.evex.adsize

/-- The prefixes of an instruction fit its row and the bitness. An EVEX register form with b = 1 has no vector length
(R184), so it stands for no Code. -/
def Instr.prefixWf (bt : Bitness) (i : Instr) : Bool :=
  match (row i.code).space with
  | .Legacy => i.bundle.legacy.wf bt (row i.code).mp
  | .VEX => i.bundle.vex.wf bt
  | .EVEX => i.bundle.evex.wf bt (row i.code).w && !(i.bundle.rm.isReg && i.bundle.evex.b)

/-- R53, R70 to R80: the instruction can be written in bytes, at most `MAX_LEN` of them, and no LOCK stands before it
(R133). -/
def Instr.wf (bt : Bitness) (i : Instr) : Bool :=
  i.prefixWf bt && i.bundle.rm.wf (addrSize bt i.adsize) && !i.bundle.legacy.lock && decide (i.byteCount ≤ Config.maxLen)

/-- R189: the vvvv field (and EVEX V') of a row without a vvvv operand is unused. -/
def Instr.vvvvLegal (i : Instr) : Bool :=
  match (row i.code).space with
  | .Legacy => true
  | .VEX => (tableForm i.code).usesVvvv || decide (i.bundle.vex.vvvv = 0)
  | .EVEX => (tableForm i.code).usesVvvv || (decide (i.bundle.evex.vvvv = 0) && !i.bundle.evex.Vp)

/-- R191 to R193: the masking fields are ones the row allows. -/
def EvexPrefix.maskLegal (m : MaskKind) (p : EvexPrefix) : Bool :=
  match m with
  | .none => decide (p.aaa = 0) && !p.z
  | .k1 => !p.z
  | .k1z => !p.z || decide (p.aaa ≠ 0)

/-- R133, R184, R187, R189, R191 to R193: the checks after the row is selected pass. R and R' count in 64-bit bitness
only (R117). -/
def Instr.legal (bt : Bitness) (i : Instr) : Bool :=
  i.vvvvLegal &&
  match (row i.code).space with
  | .Legacy => !i.bundle.legacy.lock
  | .VEX => true
  | .EVEX =>
    i.bundle.evex.maskLegal (row i.code).mask &&
    (!i.bundle.evex.b || (!i.bundle.rm.isReg && (row i.code).bcst.isSome)) &&
    (decide ((row i.code).shape ≠ .K_V_RM) || decide (bt ≠ .b64) || (!i.bundle.evex.R && !i.bundle.evex.Rp))

end Sys2Proof
end

