-- ==== Sys2Proof/Decode.lean ====
section
/-! DEFINITION. The decoder, total on any bytes and rejecting by name (`DecodeError`), then the encoder. The decoder is
the work of the states `PrefixScan`, `OpcodeLookup` and `ModRM` of spec/44_assembler.md R210, written over the registers
as the pseudocode of R123, R142 and R169 has it, and then the choice of the Code by the vector length (R198). `w` is the
input window: the bytes `B[0]`, `B[1]`, ... of R52, so that `avail` is its length. -/

namespace Sys2Proof

open Sys2Proof.Machine

/-- R500: a raise: the error, and the registers as they stand. -/
structure Stop where
  err : DecodeError
  regs : Regs
  deriving DecidableEq, Repr

/-- The result of a piece of decode work: a value, or a raise. -/
abbrev Dec (α : Type) := Except Stop α

/-- R9, R500: `raise E`. -/
def raiseAt {α : Type} (e : DecodeError) (r : Regs) : Dec α := .error { err := e, regs := r }

/-- R53, R54: the byte at the cursor, or the cursor error; the limit is tested first. -/
def peekByte (w : List Byte) (r : Regs) : Dec Byte :=
  if Config.maxLen ≤ r.pos.val then raiseAt .InstructionTooLong r
  else match w[r.pos.val]? with
    | none => raiseAt .UnexpectedEof r
    | some b => .ok b

/-- R53: `ReadByte()`: the byte at the cursor, and the registers with the cursor advanced; `PeekByte` gives no byte at
cursor 15, so the sum does not wrap. -/
def readByte (w : List Byte) (r : Regs) : Dec (Byte × Regs) :=
  match peekByte w r with
  | .error st => .error st
  | .ok b => .ok (b, { r with pos := r.pos + 1 })

/-! ### The prefix scanner (R100 to R124) -/

/-- R71: the segment that a segment-prefix byte names. -/
def segOfByte (b : Byte) : Option SegReg :=
  match b.toNat with
  | 0x26 => some .ES
  | 0x2E => some .CS
  | 0x36 => some .SS
  | 0x3E => some .DS
  | 0x64 => some .FS
  | 0x65 => some .GS
  | _ => none

/-- R71, R102: what recording a legacy prefix byte makes of `ps`; none for a byte that is no legacy prefix. A pending REX
is dropped (R103, R123). -/
def recordPrefix (b : Byte) (ps : PrefixState) : Option PrefixState :=
  match segOfByte b with
  | some s => some { ps with seg := some s, rex := none }
  | none =>
    match b.toNat with
    | 0x66 => some { ps with opsize := true, rex := none }
    | 0x67 => some { ps with adsize := true, rex := none }
    | 0xF0 => some { ps with lock := true, rex := none }
    | 0xF2 => some { ps with rep := some .F2, rex := none }
    | 0xF3 => some { ps with rep := some .F3, rex := none }
    | _ => none

/-- R103, R105: whether the byte is a REX byte in this bitness. -/
def isRex (bt : Bitness) (b : Byte) : Bool :=
  decide (bt = .b64) && decide (b.extractLsb' 4 4 = 4)

/-- R101 to R103, R123: the prefix loop. `n` bounds the iterations; every one reads a byte, so that with
`n = MAX_LEN + 1` the read limit of R53 always ends the loop first. -/
def prefixLoop (order : RexOrder) (bt : Bitness) (w : List Byte) : Nat → Regs → Dec Regs
  | 0, r => raiseAt .InstructionTooLong r
  | n + 1, r =>
    match readByte w r with
    | .error st => .error st
    | .ok (b, r1) =>
      match recordPrefix b r1.ps with
      | some ps => prefixLoop order bt w n { r1 with ps := ps }
      | none =>
        if isRex bt b then
          match order with
          | .Architectural => prefixLoop order bt w n { r1 with ps := { r1.ps with rex := some b } }
          | .DocLiteral =>
            match readByte w { r1 with ps := { r1.ps with rex := some b } } with
            | .error st => .error st
            | .ok (b0, r2) => .ok { r2 with b0 := some b0 }
        else .ok { r1 with b0 := some b }

/-- R106, R107: whether `b0` is one of C4, C5, 62. -/
def isEscapeByte (b0 : Byte) : Bool :=
  decide (b0 = 0xC4) || decide (b0 = 0xC5) || decide (b0 = 0x62)

/-- R106 to R108: whether `b0` is taken as an escape; outside 64-bit bitness the next byte decides. -/
def escapeTaken (bt : Bitness) (w : List Byte) (b0 : Byte) (r : Regs) : Dec Bool :=
  if isEscapeByte b0 then
    match bt with
    | .b64 => .ok true
    | .b16 =>
      match peekByte w r with
      | .error st => .error st
      | .ok p => .ok (decide (p.extractLsb' 6 2 = 3))
    | .b32 =>
      match peekByte w r with
      | .error st => .error st
      | .ok p => .ok (decide (p.extractLsb' 6 2 = 3))
  else .ok false

/-- R113: the map of a VEX3 m-mmmm field. -/
def vexMap (mmmmm : BitVec 5) : Option OpMap :=
  match mmmmm.toNat with
  | 1 => some .m0F
  | 2 => some .m0F38
  | 3 => some .m0F3A
  | _ => none

/-- R116: the map of an EVEX mm field. -/
def evexMap (mm : BitVec 2) : Option OpMap :=
  match mm.toNat with
  | 1 => some .m0F
  | 2 => some .m0F38
  | 3 => some .m0F3A
  | _ => none

/-- R117, R119: the end of a VEX/EVEX payload: the raw copies, the masking, the mandatory prefix. -/
def endPayload (bt : Bitness) (ps : PrefixState) : PrefixState :=
  { maskExtensions bt ps with mp := ppMp ps.pp }

/-- R111: the VEX2 payload byte. -/
def vex2State (p1 : Byte) (ps : PrefixState) : PrefixState :=
  { ps with space := .VEX2, R := !p1.getLsbD 7, vvvv := ~~~(p1.extractLsb' 3 4), L := p1.getLsbD 2,
            pp := p1.extractLsb' 0 2, X := false, B := false, W := false, map := some .m0F }

/-- R112: the VEX3 payload bytes. -/
def vex3State (p1 p2 : Byte) (ps : PrefixState) : PrefixState :=
  { ps with space := .VEX3, R := !p1.getLsbD 7, X := !p1.getLsbD 6, B := !p1.getLsbD 5, W := p2.getLsbD 7,
            vvvv := ~~~(p2.extractLsb' 3 4), L := p2.getLsbD 2, pp := p2.extractLsb' 0 2 }

/-- R114: the EVEX payload bytes. -/
def evexState (P0 P1 P2 : Byte) (ps : PrefixState) : PrefixState :=
  { ps with space := .EVEX, R := !P0.getLsbD 7, X := !P0.getLsbD 6, B := !P0.getLsbD 5, Rp := !P0.getLsbD 4,
            W := P1.getLsbD 7, vvvv := ~~~(P1.extractLsb' 3 4), pp := P1.extractLsb' 0 2,
            z := P2.getLsbD 7, LL := P2.extractLsb' 5 2, b := P2.getLsbD 4, Vp := !P2.getLsbD 3,
            aaa := P2.extractLsb' 0 3 }

/-- R115: the fixed bits of an EVEX payload: P0[3:2] = 00 and P1[2] = 1. -/
def evexFixedOk (P0 P1 : Byte) : Bool :=
  decide (P0.extractLsb' 2 2 = 0) && P1.getLsbD 2

/-- R111: reading a VEX2 payload. -/
def readVex2 (bt : Bitness) (w : List Byte) (r : Regs) : Dec Regs :=
  match readByte w r with
  | .error st => .error st
  | .ok (p1, r1) => .ok { r1 with ps := endPayload bt (vex2State p1 r1.ps) }

/-- R112, R113: reading a VEX3 payload; the map is checked after both bytes are read. -/
def readVex3 (bt : Bitness) (w : List Byte) (r : Regs) : Dec Regs :=
  match readByte w r with
  | .error st => .error st
  | .ok (p1, r1) =>
    match readByte w r1 with
    | .error st => .error st
    | .ok (p2, r2) =>
      match vexMap (p1.extractLsb' 0 5) with
      | none => raiseAt .InvalidVexEvexEncoding { r2 with ps := vex3State p1 p2 r2.ps }
      | some m => .ok { r2 with ps := endPayload bt { vex3State p1 p2 r2.ps with map := some m } }

/-- R114 to R116: reading an EVEX payload; the fixed bits and the map are checked after the three bytes are read. -/
def readEvex (bt : Bitness) (w : List Byte) (r : Regs) : Dec Regs :=
  match readByte w r with
  | .error st => .error st
  | .ok (P0, r1) =>
    match readByte w r1 with
    | .error st => .error st
    | .ok (P1, r2) =>
      match readByte w r2 with
      | .error st => .error st
      | .ok (P2, r3) =>
        match evexFixedOk P0 P1, evexMap (P0.extractLsb' 0 2) with
        | true, some m => .ok { r3 with ps := endPayload bt { evexState P0 P1 P2 r3.ps with map := some m } }
        | true, none => raiseAt .InvalidVexEvexEncoding { r3 with ps := evexState P0 P1 P2 r3.ps }
        | false, _ => raiseAt .InvalidVexEvexEncoding { r3 with ps := evexState P0 P1 P2 r3.ps }

/-- R109, R110: whether a REX byte or 66, F2, F3, F0 stands before the escape. -/
def badBeforeEscape (ps : PrefixState) : Bool :=
  ps.rex.isSome || ps.opsize || ps.rep.isSome || ps.lock

/-- R109 to R117: the work on an escape byte `b0`. -/
def readEscape (bt : Bitness) (w : List Byte) (b0 : Byte) (r : Regs) : Dec Regs :=
  if badBeforeEscape r.ps then raiseAt .InvalidVexEvexEncoding r
  else if b0 = 0xC5 then readVex2 bt w r
  else if b0 = 0xC4 then readVex3 bt w r
  else readEvex bt w r

/-- R104, R118: the end of a legacy scan: the REX fields and the mandatory prefix. -/
def legacyEnd (ps : PrefixState) : PrefixState :=
  match ps.rex with
  | none => { ps with space := .Legacy, mp := legacyMp ps.rep ps.opsize }
  | some x => { ps with space := .Legacy, mp := legacyMp ps.rep ps.opsize,
                        W := x.getLsbD 3, R := x.getLsbD 2, X := x.getLsbD 1, B := x.getLsbD 0 }

/-- R123: `PrefixScan`. -/
def prefixScan (order : RexOrder) (bt : Bitness) (w : List Byte) (r : Regs) : Dec Regs :=
  match prefixLoop order bt w (Config.maxLen + 1) r with
  | .error st => .error st
  | .ok r1 =>
    match escapeTaken bt w (r1.b0.getD 0) r1 with
    | .error st => .error st
    | .ok true => readEscape bt w (r1.b0.getD 0) r1
    | .ok false => .ok { r1 with ps := legacyEnd r1.ps }

/-! ### The opcode table walker (R130 to R142) -/

/-- R130: the opcode byte of a legacy instruction after `0F`: the map byte 38 or 3A, or the opcode itself. -/
def readLegacyOpcode (w : List Byte) (r : Regs) : Dec Regs :=
  match readByte w r with
  | .error st => .error st
  | .ok (o2, r1) =>
    if o2 = 0x38 then
      match readByte w { r1 with ps := { r1.ps with map := some .m0F38 } } with
      | .error st => .error st
      | .ok (o, r2) => .ok { r2 with opc := some o }
    else if o2 = 0x3A then
      match readByte w { r1 with ps := { r1.ps with map := some .m0F3A } } with
      | .error st => .error st
      | .ok (o, r2) => .ok { r2 with opc := some o }
    else .ok { r1 with ps := { r1.ps with map := some .m0F }, opc := some o2 }

/-- R130, R131: the opcode bytes. -/
def readOpcode (w : List Byte) (r : Regs) : Dec Regs :=
  if r.ps.space = .Legacy then
    if r.b0 = some 0x0F then readLegacyOpcode w r else raiseAt .UnknownOpcode r
  else
    match readByte w r with
    | .error st => .error st
    | .ok (o, r1) => .ok { r1 with opc := some o }

/-- R132: the table rows that the registers' key names. -/
def entryOf (r : Regs) : List Code :=
  lookup (tableSpace r.ps.space) (r.ps.map.getD .m0F) r.ps.mp (r.opc.getD 0)

/-- R132 to R134: the lookup after the opcode byte is read. Where no ModRM byte follows, the family is selected at once. -/
def lookupEntry (r : Regs) : Dec Regs :=
  if (entryOf r).isEmpty then raiseAt .UnknownOpcode { r with entry := some [] }
  else if decide (r.ps.space = .Legacy) && r.ps.lock then raiseAt .UnknownOpcode { r with entry := some (entryOf r) }
  else if needsModRM (entryOf r) then .ok { r with entry := some (entryOf r) }
  else
    match select (entryOf r) none r.ps.W with
    | none => raiseAt .UnknownOpcode { r with entry := some (entryOf r) }
    | some f => .ok { r with entry := some (entryOf r), fam := some f }

/-- R142: `OpcodeLookup`. -/
def opcodeLookup (w : List Byte) (r : Regs) : Dec Regs :=
  match readOpcode w r with
  | .error st => .error st
  | .ok r1 => lookupEntry r1

/-! ### ModRM, SIB, displacement, immediate (R150 to R169) -/

/-- The row that stands for a family: its first (R138: the rows of a family share shape and class). -/
def famRow (fam : Option (List Code)) : Option Row :=
  match fam with
  | some (c :: _) => some (row c)
  | some [] => none
  | none => none

/-- R162, R57: reading a displacement of `size` bytes, least significant first. -/
def readDisp (w : List Byte) (size : Nat) (r : Regs) : Dec Regs :=
  match size with
  | 1 =>
    match readByte w r with
    | .error st => .error st
    | .ok (b0, r1) => .ok { r1 with dispRaw := b0.toInt }
  | 2 =>
    match readByte w r with
    | .error st => .error st
    | .ok (b0, r1) =>
      match readByte w r1 with
      | .error st => .error st
      | .ok (b1, r2) => .ok { r2 with dispRaw := (b1 ++ b0).toInt }
  | 4 =>
    match readByte w r with
    | .error st => .error st
    | .ok (b0, r1) =>
      match readByte w r1 with
      | .error st => .error st
      | .ok (b1, r2) =>
        match readByte w r2 with
        | .error st => .error st
        | .ok (b2, r3) =>
          match readByte w r3 with
          | .error st => .error st
          | .ok (b3, r4) => .ok { r4 with dispRaw := (b3 ++ b2 ++ b1 ++ b0).toInt }
  | _ => .ok r

/-- R157: reading the SIB byte where one follows. -/
def readSib (w : List Byte) (as : AddrSize) (rm : BitVec 3) (r : Regs) : Dec Regs :=
  if needsSib as rm then
    match readByte w r with
    | .error st => .error st
    | .ok (b, r1) => .ok { r1 with sib := some b }
  else .ok r

/-- R151 to R162: the memory form of the rm operand: SIB, `md`, displacement. -/
def readMemory (bt : Bitness) (w : List Byte) (m : Byte) (r : Regs) : Dec Regs :=
  match readSib w (addrSize bt r.ps.adsize) (rmField m) r with
  | .error st => .error st
  | .ok r1 =>
    readDisp w (dispSizeOf (addrSize bt r1.ps.adsize) (modField m) (rmField m) r1.sib)
      { r1 with
        md := some (memWork bt (addrSize bt r1.ps.adsize) r1.ps.X r1.ps.B (modField m) (rmField m) r1.sib)
        dispSize := dispSizeOf (addrSize bt r1.ps.adsize) (modField m) (rmField m) r1.sib }

/-- R167: reading the imm8 where the shape has one. -/
def readImm (w : List Byte) (has : Bool) (r : Regs) : Dec Regs :=
  if has then
    match readByte w r with
    | .error st => .error st
    | .ok (b, r1) => .ok { r1 with imm := some b }
  else .ok r

/-- R150, R153, R168: the work after the ModRM byte `m` is read and the family is selected. -/
def readOperands (bt : Bitness) (w : List Byte) (m : Byte) (sh : Shape) (r : Regs) : Dec Regs :=
  if modField m = 3 then readImm w sh.hasImm8 r
  else if sh.rmRegOnly then raiseAt .InvalidModRM r
  else
    match readMemory bt w m r with
    | .error st => .error st
    | .ok r1 => readImm w sh.hasImm8 r1

/-- R169: `ModRMState`. -/
def modrmState (bt : Bitness) (w : List Byte) (r : Regs) : Dec Regs :=
  match readByte w r with
  | .error st => .error st
  | .ok (m, r1) =>
    match select (r1.entry.getD []) (some (regField m)) r1.ps.W with
    | none => raiseAt .UnknownOpcode { r1 with modrm := some m }
    | some f =>
      match famRow (some f) with
      | none => raiseAt .UnknownOpcode { r1 with modrm := some m }
      | some rw => readOperands bt w m rw.shape { r1 with modrm := some m, fam := some f }

/-! ### The instruction -/

/-- The prefix fields of the registers, as those of a legacy instruction. -/
def legacyOf (ps : PrefixState) : LegacyPrefix :=
  { seg := ps.seg, opsize := ps.opsize, adsize := ps.adsize, lock := ps.lock, rep := ps.rep,
    rex := ps.rex.map fun b => b.extractLsb' 0 4 }

/-- The prefix fields of the registers, as those of a VEX instruction. -/
def vexOf (ps : PrefixState) : VexPrefix :=
  { seg := ps.seg, adsize := ps.adsize, three := decide (ps.space = .VEX3), W := ps.W, R := ps.R, X := ps.X, B := ps.B,
    vvvv := ps.vvvvRaw }

/-- The prefix fields of the registers, as those of an EVEX instruction. -/
def evexOf (ps : PrefixState) : EvexPrefix :=
  { seg := ps.seg, adsize := ps.adsize, W := ps.W, R := ps.R, X := ps.X, B := ps.B, Rp := ps.Rp, Vp := ps.VpRaw,
    vvvv := ps.vvvvRaw, z := ps.z, b := ps.b, aaa := ps.aaa }

/-- The rm operand that the registers hold. -/
def rmOf (r : Regs) : RMOperand :=
  match r.modrm with
  | none => .reg 0
  | some m =>
    if modField m = 3 then .reg (rmField m)
    else .mem (modField m) (rmField m) r.sib (dispOf r.dispSize r.dispRaw)

/-- The operand fields that the registers hold at the end of the ModRM state. -/
def bundleOf (r : Regs) : Bundle :=
  { legacy := legacyOf r.ps, vex := vexOf r.ps, evex := evexOf r.ps,
    reg := (r.modrm.map regField).getD 0, rm := rmOf r, imm := r.imm.getD 0 }

/-- R182: REGFORM, mod = 11. -/
def regForm (r : Regs) : Bool :=
  match r.modrm with
  | none => true
  | some m => decide (modField m = 3)

/-- R139, R198: the Code that the registers select; none where R183 or R184 leaves no vector length. -/
def pickCode (r : Regs) : Option Code :=
  match famRow r.fam with
  | none => none
  | some rw =>
    match vectorLength rw.rounding r.ps (regForm r) with
    | none => none
    | some len => codeOf (r.fam.getD []) len.vl

/-- The states `PrefixScan`, `OpcodeLookup` and `ModRM` (R210, R222). -/
def scanRegs (order : RexOrder) (bt : Bitness) (w : List Byte) : Dec Regs :=
  match prefixScan order bt w Regs.initial with
  | .error st => .error st
  | .ok r1 =>
    match opcodeLookup w r1 with
    | .error st => .error st
    | .ok r2 => if needsModRM (r2.entry.getD []) then modrmState bt w r2 else .ok r2

/-- The decoder: the instruction at the start of the window and the registers it leaves, or the raise. -/
def decode (order : RexOrder) (bt : Bitness) (w : List Byte) : Dec (Instr × Regs) :=
  match scanRegs order bt w with
  | .error st => .error st
  | .ok r =>
    match pickCode r with
    | none => raiseAt .InvalidVexEvexEncoding r
    | some c => .ok (build c (bundleOf r), r)

/-- The decoder's instruction, if it gives one. -/
def decodeInstr (order : RexOrder) (bt : Bitness) (w : List Byte) : Option Instr :=
  match decode order bt w with
  | .error _ => none
  | .ok (i, _) => some i

/-- The decoder's error, if it raises one. -/
def decodeErr (order : RexOrder) (bt : Bitness) (w : List Byte) : Option DecodeError :=
  match decode order bt w with
  | .error st => some st.err
  | .ok _ => none

/-! ### The encoder -/

/-- R71: the byte of a segment prefix. -/
def segByte (s : SegReg) : Byte :=
  match s with
  | .ES => 0x26
  | .CS => 0x2E
  | .SS => 0x36
  | .DS => 0x3E
  | .FS => 0x64
  | .GS => 0x65

/-- R71: the byte of a repeat prefix. -/
def repByte (x : Rep) : Byte :=
  match x with
  | .F2 => 0xF2
  | .F3 => 0xF3

/-- A byte where the flag is set. -/
def optByte (b : Bool) (v : Byte) : List Byte := if b then [v] else []

/-- R71: the segment prefix, where there is one. -/
def encodeSeg (s : Option SegReg) : List Byte :=
  match s with
  | none => []
  | some x => [segByte x]

/-- R71: the repeat prefix, where there is one. -/
def encodeRep (x : Option Rep) : List Byte :=
  match x with
  | none => []
  | some y => [repByte y]

/-- R72: the REX byte `0100 W R X B`, where there is one. -/
def encodeRex (x : Option (BitVec 4)) : List Byte :=
  match x with
  | none => []
  | some v => [(4 : BitVec 4) ++ v]

/-- R70, R76: the prefixes and opcode bytes of a legacy instruction. -/
def encodeLegacy (m : OpMap) (opc : Byte) (p : LegacyPrefix) : List Byte :=
  encodeSeg p.seg ++ optByte p.opsize 0x66 ++ optByte p.adsize 0x67 ++ optByte p.lock 0xF0 ++ encodeRep p.rep ++
    encodeRex p.rex ++
    (match m with
      | .m0F => [0x0F, opc]
      | .m0F38 => [0x0F, 0x38, opc]
      | .m0F3A => [0x0F, 0x3A, opc])

/-- R73: byte 1 of VEX2: `~R ~vvvv L pp`. -/
def vex2Byte1 (mp : Mp) (L : Bool) (p : VexPrefix) : Byte :=
  BitVec.ofBool (!p.R) ++ ~~~p.vvvv ++ BitVec.ofBool L ++ mpKeyBits mp

/-- R74: byte 1 of VEX3: `~R ~X ~B m-mmmm`. -/
def vex3Byte1 (m : OpMap) (p : VexPrefix) : Byte :=
  BitVec.ofBool (!p.R) ++ BitVec.ofBool (!p.X) ++ BitVec.ofBool (!p.B) ++ (0 : BitVec 3) ++ mapKeyBits m

/-- R74: byte 2 of VEX3: `W ~vvvv L pp`. -/
def vex3Byte2 (mp : Mp) (L : Bool) (p : VexPrefix) : Byte :=
  BitVec.ofBool p.W ++ ~~~p.vvvv ++ BitVec.ofBool L ++ mpKeyBits mp

/-- R70, R73, R74: the prefixes and opcode byte of a VEX instruction. -/
def encodeVex (m : OpMap) (mp : Mp) (L : Bool) (opc : Byte) (p : VexPrefix) : List Byte :=
  encodeSeg p.seg ++ optByte p.adsize 0x67 ++
    (if p.three then [0xC4, vex3Byte1 m p, vex3Byte2 mp L p, opc] else [0xC5, vex2Byte1 mp L p, opc])

/-- R75: P0: `~R ~X ~B ~R' 0 0 mm`. -/
def evexByte0 (m : OpMap) (p : EvexPrefix) : Byte :=
  BitVec.ofBool (!p.R) ++ BitVec.ofBool (!p.X) ++ BitVec.ofBool (!p.B) ++ BitVec.ofBool (!p.Rp) ++ (0 : BitVec 2) ++
    mapKeyBits m

/-- R75: P1: `W ~vvvv 1 pp`. -/
def evexByte1 (mp : Mp) (p : EvexPrefix) : Byte :=
  BitVec.ofBool p.W ++ ~~~p.vvvv ++ (1 : BitVec 1) ++ mpKeyBits mp

/-- R75: P2: `z L'L b ~V' aaa`. -/
def evexByte2 (ll : BitVec 2) (p : EvexPrefix) : Byte :=
  BitVec.ofBool p.z ++ ll ++ BitVec.ofBool p.b ++ BitVec.ofBool (!p.Vp) ++ p.aaa

/-- R70, R75: the prefixes and opcode byte of an EVEX instruction. -/
def encodeEvex (m : OpMap) (mp : Mp) (ll : BitVec 2) (opc : Byte) (p : EvexPrefix) : List Byte :=
  encodeSeg p.seg ++ optByte p.adsize 0x67 ++ [0x62, evexByte0 m p, evexByte1 mp p, evexByte2 ll p, opc]

/-- R79, R57: the bytes of a displacement, least significant first. -/
def encodeDisp (d : Disp) : List Byte :=
  match d with
  | .none => []
  | .d8 v => [v]
  | .d16 v => [v.extractLsb' 0 8, v.extractLsb' 8 8]
  | .d32 v => [v.extractLsb' 0 8, v.extractLsb' 8 8, v.extractLsb' 16 8, v.extractLsb' 24 8]

/-- R77 to R79: ModRM, SIB and displacement. -/
def encodeRM (reg : BitVec 3) (rm : RMOperand) : List Byte :=
  match rm with
  | .reg v => [(3 : BitVec 2) ++ reg ++ v]
  | .mem mod v sib d => [mod ++ reg ++ v] ++ sib.toList ++ encodeDisp d

/-- R70: the bytes before ModRM. -/
def encodeHead (r : Row) (f : Bundle) : List Byte :=
  match r.space with
  | .Legacy => encodeLegacy r.map r.opcode f.legacy
  | .VEX => encodeVex r.map r.mp (decide (r.vl = 256)) r.opcode f.vex
  | .EVEX => encodeEvex r.map r.mp (llOf r.vl) r.opcode f.evex

/-- R70: ModRM, SIB, displacement and imm8; the digit of a group row stands in ModRM.reg. -/
def encodeTail (r : Row) (f : Bundle) : List Byte :=
  (if r.shape = .NONE then [] else encodeRM (r.digit.getD f.reg) f.rm) ++ optByte r.shape.hasImm8 f.imm

/-- The bytes of an instruction, prefixes in the order segment, 66, 67, F0, F2/F3, REX (R70 allows any order; REX stands
last). -/
def encode (i : Instr) : List Byte :=
  encodeHead (row i.code) i.bundle ++ encodeTail (row i.code) i.bundle

/-! ### The table's words -/

/-- R82: the mandatory prefix of the two bits of the lookup key. -/
def keyMp (w : BitVec 20) : Mp := ppMp (w.extractLsb' 14 2)

/-- R81, R71: the byte of a legacy mandatory prefix. -/
def mpBytes (m : Mp) : List Byte :=
  match m with
  | .NP => []
  | .P66 => [0x66]
  | .PF3 => [0xF3]
  | .PF2 => [0xF2]

/-- R76: the escape bytes of a legacy map. -/
def mapBytes (m : OpMap) : List Byte :=
  match m with
  | .m0F => [0x0F]
  | .m0F38 => [0x0F, 0x38]
  | .m0F3A => [0x0F, 0x3A]

/-- The ModRM byte that a lookup key asks for: mod = 11, reg from the key, rm = 000. -/
def keyModRM (w : BitVec 20) : Byte := (3 : BitVec 2) ++ w.extractLsb' 3 3 ++ (0 : BitVec 3)

/-- R82: the table's word is no byte string but the 20-bit lookup key. These are the bytes of an instruction that has this
key, in 64-bit bitness: the mandatory prefix, the VEX3 or EVEX payload with every register field 0, no mask and no
broadcast, the opcode, a register-form ModRM and an imm8 of 0 (assumption 5). None for a key that no instruction has:
space 11, map 00, VEX with L above 1. -/
def keyBytes (w : BitVec 20) : Option (List Byte) :=
  match evexMap (w.extractLsb' 16 2) with
  | none => none
  | some m =>
    match (w.extractLsb' 18 2).toNat with
    | 0 => some (mpBytes (keyMp w) ++ optByte (w.getLsbD 2) 0x48 ++ mapBytes m ++ [w.extractLsb' 6 8, keyModRM w, 0])
    | 1 =>
      if w.getLsbD 1 then none
      else some [0xC4, (7 : BitVec 3) ++ (0 : BitVec 3) ++ mapKeyBits m,
        w.extractLsb' 2 1 ++ (15 : BitVec 4) ++ w.extractLsb' 0 1 ++ w.extractLsb' 14 2, w.extractLsb' 6 8, keyModRM w, 0]
    | 2 => some [0x62, (15 : BitVec 4) ++ (0 : BitVec 2) ++ mapKeyBits m,
        w.extractLsb' 2 1 ++ (15 : BitVec 4) ++ (1 : BitVec 1) ++ w.extractLsb' 14 2,
        (0 : BitVec 1) ++ w.extractLsb' 0 2 ++ (1 : BitVec 2) ++ (0 : BitVec 3), w.extractLsb' 6 8, keyModRM w, 0]
    | _ => none

/-- The bytes of the table's word, filled with zeros up to `MAX_LEN`; an unreal key has none. -/
def tableWordBytes (w : Nat) : List Byte :=
  match keyBytes (BitVec.ofNat 20 w) with
  | none => []
  | some bs => bs ++ List.replicate (Config.maxLen - bs.length) 0

/-- The instruction that the decoder reads from the table's word `w` (64-bit bitness, default `P_REX_ORDER`); `nbits` is
not needed, since the key has 20 bits (R82). -/
def decodeTableWord (nbits w : Nat) : Option Instr :=
  if nbits < 20 || 2 ^ 20 ≤ w then none
  else decodeInstr Config.defaultRexOrder .b64 (tableWordBytes w)

end Sys2Proof
end

