-- ==== Sys2Proof/Machine/State.lean ====
section
/-! DEFINITION. The state of the block: its input ports (spec/10_state.md R20), every internal register (R23 to R29) and
its output (R21), as plain data; the state after reset (R48, spec/70_reset_and_hazards.md R520); the reasons a step can
stop. -/

namespace Sys2Proof.Machine

open Sys2Proof

/-- R50: the input buffer, as (address, byte) cells. Its canonical form is `Memory.wf`: the addresses are 0, 1, 2, ... in
order, since the buffer is a finite sequence indexed from 0. An unlisted address does not exist (R52). -/
abbrev Memory := List Host.Cell

/-- Why a step can stop. -/
inductive Fault where
  /-- Raised by the assembler (`complete`) where the record's operand count or kinds differ from the row's descriptor: the
  internal error of R218, which is no `DecodeError`. Safe: R218 says that it cannot occur. -/
  | assemblerMismatch
  deriving DecidableEq, Repr

/-- Why an instruction can have no meaning. -/
inductive Refusal where
  /-- Raised by an arm of `exec` whose instruction has no meaning yet; no arm raises it. Safe: the model stops. -/
  | notModelled (mnemonic : String)
  deriving DecidableEq, Repr

/-- The block's ports and registers. `buffer`, `startOffset`, `bitness`: the inputs of R20. `rexOrder`: the strap
`P_REX_ORDER` of R6. `fsm`: R23. `avail`: R24. `regs`: R24 to R28. `vf`: R29. `result`: R21, meaningful when `fsm` is
`Done` or `Error`. No field holds the start strobe that decision D2 (spec/92_eei_decisions.md) lists among the inputs and
no rule gives an action: every `step` starts a transaction, and `fsmStep` starts one where `fsm` is `Start`
(DESIGN CHOICE, assumption 16). -/
structure State where
  buffer : Memory
  startOffset : Nat
  bitness : Bitness
  rexOrder : RexOrder
  fsm : Fsm
  avail : Nat
  regs : Regs
  vf : VectorFields
  result : DecodeResult
  deriving DecidableEq, Repr

/-- R48, R520, R521: the state after reset of a block instance whose parameter `P_REX_ORDER` is `order`: reset does not
change the parameter. The spec leaves `result` and the input ports open: the buffer is empty, the offset 0, the bitness 64
(assumption 2), `result` what a transaction on that buffer would give (assumption 3). -/
def State.resetOf (order : RexOrder) : State :=
  { buffer := [], startOffset := 0, bitness := .b64, rexOrder := order,
    fsm := .Start, avail := 0, regs := Regs.initial, vf := VectorFields.initial, result := .Err .UnexpectedEof }

/-- R6, R520: the state after reset of the default instance; `State.resetOf` is that of each instance, and
`State.assertReset` (Machine/Ops.lean) the reset of an instance in use. -/
def State.reset : State := State.resetOf Config.defaultRexOrder

end Sys2Proof.Machine
end

