-- ==== Sys2Proof/Machine/Ops.lean ====
section
/-! DEFINITION. The named operations over the buffer and the registers: reading the buffer and the window
(spec/20_memory.md R50 to R52), the `Start` state's work (R48, R210), raising a decode error, which is the block's only
exception (spec/60_exceptions.md R500, R509: there is no return from it), the assembler (spec/44_assembler.md R211 to
R218) and `complete`, the work of `VectorFieldDecode` and `Assemble` that every instruction's meaning shares. -/

namespace Sys2Proof.Machine

open Sys2Proof

/-! ### The buffer -/

/-- R50: the byte at an address; none where the address does not exist. -/
def Memory.read (m : Memory) (a : Nat) : Option Byte :=
  match m with
  | [] => none
  | (k, v) :: t => if k = a then some v else Memory.read t a

/-- The cells of a byte sequence from address `k` on. -/
def Memory.cellsFrom (k : Nat) (bs : List Byte) : Memory :=
  match bs with
  | [] => []
  | b :: t => (k, b) :: Memory.cellsFrom (k + 1) t

/-- R50: the buffer that holds a byte sequence. -/
def Memory.ofBytes (bs : List Byte) : Memory := Memory.cellsFrom 0 bs

/-- Whether the addresses are `k`, `k + 1`, ... in order. -/
def Memory.wfFrom (k : Nat) (m : Memory) : Bool :=
  match m with
  | [] => true
  | (a, _) :: t => decide (a = k) && Memory.wfFrom (k + 1) t

/-- The canonical form: the addresses are 0, 1, 2, ... in order, so that equal buffers are equal data. -/
def Memory.wf (m : Memory) : Bool := Memory.wfFrom 0 m

/-- The bytes from address `a` on, at most `n`, up to the first address that does not exist. -/
def Memory.bytesFrom (m : Memory) (a n : Nat) : List Byte :=
  match n with
  | 0 => []
  | n + 1 =>
    match m.read a with
    | none => []
    | some b => b :: Memory.bytesFrom m (a + 1) n

/-- The buffer with the bytes `bs` placed at address `at`: bytes before it stay (absent ones are 0), and bytes after it
stay. It stands for the caller's supply of a buffer between transactions (R63, R523); no step of the block writes. -/
def Memory.overlay (m : Memory) (a : Nat) (bs : List Byte) : Memory :=
  Memory.ofBytes
    ((m.bytesFrom 0 m.length ++ List.replicate a 0).take a ++ bs ++ (m.bytesFrom 0 m.length).drop (a + bs.length))

/-- R24, R52: the window, the bytes of the buffer from `start_offset` on. -/
def State.window (s : State) : List Byte := s.buffer.bytesFrom s.startOffset s.buffer.length

/-! ### Start, raise -/

/-- R48, R210: the work of the state `Start`: every internal register at its initial value, `avail` from the inputs. -/
def State.begin (s : State) : State :=
  { s with fsm := .PrefixScan, avail := s.window.length, regs := Regs.initial, vf := VectorFields.initial }

/-- R520, R521: reset of a block in use: the registers at their reset values, `avail` from the inputs (R48). The input
ports and the parameter `P_REX_ORDER` are not reset's to change; `result` is open again (assumption 3). -/
def State.assertReset (s : State) : State :=
  { State.resetOf s.rexOrder with
    buffer := s.buffer, startOffset := s.startOffset, bitness := s.bitness, avail := s.window.length }

/-- R500, R219: `raise e`: the transaction ends with `Err(e)` and nothing else. -/
def State.raise (s : State) (e : DecodeError) : State :=
  { s with fsm := .Error e, result := .Err e }

/-- R210: the state `Done`: `result <- Ok(insn)`. -/
def State.done (s : State) (insn : Instruction) : State :=
  { s with fsm := .Done, result := .Ok insn }

/-! ### The assembler -/

/-- R211: what the assembler builds the record from, beside the row: `ps`, the fields of `modrm`, `md`, `disp_raw`,
`disp_size`, `imm`, `vf`, `pos`. `md` is None where the rm operand is a register. -/
structure Pieces where
  ps : PrefixState
  reg : BitVec 3
  rm : BitVec 3
  md : Option MemWork
  dispRaw : Int
  dispSize : Nat
  imm : Option Byte
  vf : VectorFields
  pos : Fin 16
  deriving DecidableEq, Repr

/-- R213, R214: a register slot. -/
def registerSlot (r : Register) : OpSlot := { kind := .Register, register := some r, imm8 := 0 }

/-- R213, R214: the slot of a memory rm. -/
def memorySlot : OpSlot := { kind := .Memory, register := none, imm8 := 0 }

/-- R167, R214: the slot of an imm8. -/
def immSlot (v : Byte) : OpSlot := { kind := .Immediate8, register := none, imm8 := v }

/-- R213, R214: what a slot of the form is filled with. -/
def fillSlot (p : Pieces) (sl : Slot) : OpSlot :=
  match sl with
  | .reg cls => registerSlot (regOperand cls p.ps p.reg)
  | .kreg => registerSlot (.k p.reg)
  | .vvvv cls => registerSlot (vvvvOperand cls p.ps)
  | .rm cls =>
    match p.md with
    | none => registerSlot (rmOperandReg cls p.ps p.rm)
    | some _ => memorySlot
  | .imm8 => immSlot (p.imm.getD 0)

/-- Slot `i` of a record whose filled slots are `l`; slots beyond `OpCount` are unused (R46). -/
def slotAt (l : List OpSlot) (i : Nat) : OpSlot := (l[i]?).getD OpSlot.unused

/-- R197: `MemorySize` of a memory operand. -/
def memorySizeOf (f : Form) (isBcst : Bool) : MemorySize :=
  match isBcst, f.bcst with
  | true, some (ms, _) => ms
  | true, none => f.memsize
  | false, _ => f.memsize

/-- R32, R214: the memory descriptor of a record with a memory operand. -/
def withMemory (f : Form) (p : Pieces) (md : MemWork) (r : Instruction) : Instruction :=
  { r with memorySegment := some (memorySegment p.ps), memoryBase := md.base, memoryIndex := md.index,
           memoryIndexScale := md.scale, memoryDisplacement := memoryDisplacement md.as p.dispRaw p.vf.n,
           memoryDisplSize := p.dispSize, memorySize := memorySizeOf f p.vf.bcst }

/-- R216: RC and SAE of the record: forced to None and 0 where an operand is memory. -/
def withRounding (p : Pieces) (r : Instruction) : Instruction :=
  match p.md with
  | none => { r with roundingControl := p.vf.rc, suppressAllExceptions := p.vf.sae }
  | some _ => { r with roundingControl := .None, suppressAllExceptions := false }

/-- R211 to R216 without the memory descriptor: length, Code, count, slots, prefix flags, opmask and zeroing. -/
def assembleBase (f : Form) (p : Pieces) : Instruction :=
  { Instruction.blank f.code p.pos with
    opCount := f.slots.length
    op0 := slotAt (f.slots.map (fillSlot p)) 0
    op1 := slotAt (f.slots.map (fillSlot p)) 1
    op2 := slotAt (f.slots.map (fillSlot p)) 2
    op3 := slotAt (f.slots.map (fillSlot p)) 3
    hasRepePrefix := hasRepe p.ps
    hasRepnePrefix := hasRepne p.ps
    hasLockPrefix := hasLock p.ps
    segmentPrefix := segmentPrefix p.ps
    opMask := p.vf.opmask
    zeroingMasking := p.vf.zeroing }

/-- R211 to R216: `Assemble`. -/
def assemble (f : Form) (p : Pieces) : Instruction :=
  match p.md with
  | none => withRounding p (assembleBase f p)
  | some md => withMemory f p md (withRounding p (assembleBase f p))

/-- R138: the kinds that a slot of a row's shape may have. -/
def Slot.admits (regOnly : Bool) (sl : Slot) (k : OpKind) : Bool :=
  match sl with
  | .reg _ => decide (k = .Register)
  | .kreg => decide (k = .Register)
  | .vvvv _ => decide (k = .Register)
  | .rm _ => decide (k = .Register) || (decide (k = .Memory) && !regOnly)
  | .imm8 => decide (k = .Immediate8)

/-- The four slots of a record. -/
def Instruction.ops (r : Instruction) : List OpSlot := [r.op0, r.op1, r.op2, r.op3]

/-- Whether the first slots of a record have the kinds that the row's slots admit. -/
def kindsMatch (regOnly : Bool) (sls : List Slot) (ops : List OpSlot) : Bool :=
  match sls, ops with
  | [], _ => true
  | _ :: _, [] => false
  | sl :: sls, op :: ops => sl.admits regOnly op.kind && kindsMatch regOnly sls ops

/-- R218: "operand count and kinds match the encoding descriptor exactly": the record against the table's row. -/
def descriptorMatches (r : Instruction) : Bool :=
  decide (r.opCount = ((row r.code).shape.slots (row r.code).cls).length) &&
    kindsMatch (row r.code).shape.rmRegOnly ((row r.code).shape.slots (row r.code).cls) r.ops

/-! ### The work that every meaning shares -/

/-- The prefix state of a legacy instruction of the given map (R104, R118, R130). -/
def legacyState (m : OpMap) (p : LegacyPrefix) : PrefixState :=
  legacyEnd { PrefixState.initial with
    seg := p.seg, opsize := p.opsize, adsize := p.adsize, lock := p.lock, rep := p.rep,
    rex := p.rex.map fun v => (4 : BitVec 4) ++ v, map := some m }

/-- The prefix state of a VEX instruction of the given map, mandatory prefix and L (R111, R112, R117, R119). -/
def vexState (bt : Bitness) (m : OpMap) (mp : Mp) (L : Bool) (p : VexPrefix) : PrefixState :=
  endPayload bt { PrefixState.initial with
    seg := p.seg, adsize := p.adsize, space := if p.three then .VEX3 else .VEX2, W := p.W, R := p.R, X := p.X, B := p.B,
    vvvv := p.vvvv, L := L, pp := mpKeyBits mp, map := some m }

/-- The prefix state of an EVEX instruction of the given map, mandatory prefix and L'L (R114, R117, R119). -/
def evexPrefixState (bt : Bitness) (m : OpMap) (mp : Mp) (ll : BitVec 2) (p : EvexPrefix) : PrefixState :=
  endPayload bt { PrefixState.initial with
    seg := p.seg, adsize := p.adsize, space := .EVEX, W := p.W, R := p.R, X := p.X, B := p.B, Rp := p.Rp, Vp := p.Vp,
    vvvv := p.vvvv, LL := ll, pp := mpKeyBits mp, z := p.z, b := p.b, aaa := p.aaa, map := some m }

/-- R28, R169: `md` of an rm operand; None for a register. -/
def rmWork (bt : Bitness) (ps : PrefixState) (rm : RMOperand) : Option MemWork :=
  match rm with
  | .reg _ => none
  | .mem mod v sib _ => some (memWork bt (addrSize bt ps.adsize) ps.X ps.B mod v sib)

/-- The displacement of an rm operand. -/
def rmDisp (rm : RMOperand) : Disp :=
  match rm with
  | .reg _ => .none
  | .mem _ _ _ d => d

/-- R195: whether the rm operand is memory with a 1-byte displacement. -/
def isDisp8 (md : Option MemWork) (size : Nat) : Bool := md.isSome && decide (size = 1)

/-- R210, R218: the state `Assemble`: the record, checked against the row's descriptor. -/
def finish (f : Form) (p : Pieces) (s : State) : Host.Outcome State Fault Refusal :=
  if descriptorMatches (assemble f p) then .next (s.done (assemble f p)) else .fault .assemblerMismatch

/-- The pieces of an instruction with prefix state `ps` and the given operand fields, before `vf` is known; `ByteLength`
is the cursor (R212). -/
def piecesOf (ps : PrefixState) (reg : BitVec 3) (rm : RMOperand) (imm : Option Byte) (s : State) : Pieces :=
  { ps, reg, rm := rm.field, md := rmWork s.bitness ps rm, dispRaw := dispRaw (rmDisp rm), dispSize := dispSize (rmDisp rm),
    imm, vf := VectorFields.initial, pos := s.regs.pos }

/-- R133, R199, R210: the work after the operand fields are known: LOCK on a legacy row raises `UnknownOpcode`; then
`VectorFieldDecode`, which writes `vf` or raises; then `Assemble`. -/
def complete (f : Form) (p : Pieces) (s : State) : Host.Outcome State Fault Refusal :=
  if decide (p.ps.space = .Legacy) && p.ps.lock then .next (s.raise .UnknownOpcode)
  else
    match vectorFieldDecode f p.ps p.md.isNone (isDisp8 p.md p.dispSize) with
    | .error e => .next (s.raise e)
    | .ok vf => finish f { p with vf := vf } { s with vf := vf }

/-- The form of a legacy row: no vector length, no masking, no broadcast. -/
def legacyForm (c : Code) (slots : List Slot) (memsize : MemorySize) : Form :=
  { code := c, vl := 0, slots, memsize, bcst := none, mask := .none, rounding := .none }

/-- The form of a VEX row: no masking, no broadcast. -/
def vexForm (c : Code) (vl : Nat) (slots : List Slot) (memsize : MemorySize) : Form :=
  { code := c, vl, slots, memsize, bcst := none, mask := .none, rounding := .none }

/-- The form of an EVEX row; none has a rounding form (R186). -/
def evexForm (c : Code) (vl : Nat) (slots : List Slot) (mask : MaskKind) (memsize : MemorySize)
    (bcst : Option (MemorySize × Nat)) : Form :=
  { code := c, vl, slots, memsize, bcst, mask, rounding := .none }

/-- The meaning of a legacy row of map 0F with the form `f` (R300 to R328). -/
def completeLegacy (f : Form) (p : LegacyPrefix) (reg : BitVec 3) (rm : RMOperand) (imm : Option Byte) (s : State) :
    Host.Outcome State Fault Refusal :=
  complete f (piecesOf (legacyState .m0F p) reg rm imm s) s

/-- The meaning of a VEX row of map 0F with the form `f` (R340 to R373). -/
def completeVex (f : Form) (mp : Mp) (p : VexPrefix) (reg : BitVec 3) (rm : RMOperand) (imm : Option Byte) (s : State) :
    Host.Outcome State Fault Refusal :=
  complete f (piecesOf (vexState s.bitness .m0F mp (decide (f.vl = 256)) p) reg rm imm s) s

/-- The meaning of an EVEX row with the form `f` (R380 to R466). -/
def completeEvex (f : Form) (m : OpMap) (mp : Mp) (p : EvexPrefix) (reg : BitVec 3) (rm : RMOperand) (imm : Option Byte)
    (s : State) : Host.Outcome State Fault Refusal :=
  complete f (piecesOf (evexPrefixState s.bitness m mp (llOf f.vl) p) reg rm imm s) s

end Sys2Proof.Machine
end

