-- ==== Sys2Proof/Machine/EvexCompareConcat.lean ====
section
/-! DEFINITION. The meanings of the EVEX instructions, map 0F opcodes 74 to 76 and map 0F3A opcodes 70 to 73
(spec/49_evex_0f74_0f76_0f3a70_0f3a73.md R440 to R466): each is the record its rule gives, written from the rule's
pseudocode, over the shared work `complete`. -/

namespace Sys2Proof.Machine

open Sys2Proof

/-- R440: `EVEX.128.66.0F.WIG 74 /r`. -/
def execEVEX_Vpcmpeqb_kr_k1_xmm_xmmm128 (p : EvexPrefix) (reg : BitVec 3) (rm : RMOperand) (s : State) :
    Host.Outcome State Fault Refusal :=
  completeEvex (evexForm .EVEX_Vpcmpeqb_kr_k1_xmm_xmmm128 128
    [.kreg, .vvvv .XMM, .rm .XMM] .k1 .Packed128_Int8 none)
    .m0F .P66 p reg rm none s

/-- R441: `EVEX.256.66.0F.WIG 74 /r`. -/
def execEVEX_Vpcmpeqb_kr_k1_ymm_ymmm256 (p : EvexPrefix) (reg : BitVec 3) (rm : RMOperand) (s : State) :
    Host.Outcome State Fault Refusal :=
  completeEvex (evexForm .EVEX_Vpcmpeqb_kr_k1_ymm_ymmm256 256
    [.kreg, .vvvv .YMM, .rm .YMM] .k1 .Packed256_Int8 none)
    .m0F .P66 p reg rm none s

/-- R442: `EVEX.512.66.0F.WIG 74 /r`. -/
def execEVEX_Vpcmpeqb_kr_k1_zmm_zmmm512 (p : EvexPrefix) (reg : BitVec 3) (rm : RMOperand) (s : State) :
    Host.Outcome State Fault Refusal :=
  completeEvex (evexForm .EVEX_Vpcmpeqb_kr_k1_zmm_zmmm512 512
    [.kreg, .vvvv .ZMM, .rm .ZMM] .k1 .Packed512_Int8 none)
    .m0F .P66 p reg rm none s

/-- R443: `EVEX.128.66.0F.WIG 75 /r`. -/
def execEVEX_Vpcmpeqw_kr_k1_xmm_xmmm128 (p : EvexPrefix) (reg : BitVec 3) (rm : RMOperand) (s : State) :
    Host.Outcome State Fault Refusal :=
  completeEvex (evexForm .EVEX_Vpcmpeqw_kr_k1_xmm_xmmm128 128
    [.kreg, .vvvv .XMM, .rm .XMM] .k1 .Packed128_Int16 none)
    .m0F .P66 p reg rm none s

/-- R444: `EVEX.256.66.0F.WIG 75 /r`. -/
def execEVEX_Vpcmpeqw_kr_k1_ymm_ymmm256 (p : EvexPrefix) (reg : BitVec 3) (rm : RMOperand) (s : State) :
    Host.Outcome State Fault Refusal :=
  completeEvex (evexForm .EVEX_Vpcmpeqw_kr_k1_ymm_ymmm256 256
    [.kreg, .vvvv .YMM, .rm .YMM] .k1 .Packed256_Int16 none)
    .m0F .P66 p reg rm none s

/-- R445: `EVEX.512.66.0F.WIG 75 /r`. -/
def execEVEX_Vpcmpeqw_kr_k1_zmm_zmmm512 (p : EvexPrefix) (reg : BitVec 3) (rm : RMOperand) (s : State) :
    Host.Outcome State Fault Refusal :=
  completeEvex (evexForm .EVEX_Vpcmpeqw_kr_k1_zmm_zmmm512 512
    [.kreg, .vvvv .ZMM, .rm .ZMM] .k1 .Packed512_Int16 none)
    .m0F .P66 p reg rm none s

/-- R446: `EVEX.128.66.0F.W0 76 /r`. -/
def execEVEX_Vpcmpeqd_kr_k1_xmm_xmmm128b32 (p : EvexPrefix) (reg : BitVec 3) (rm : RMOperand) (s : State) :
    Host.Outcome State Fault Refusal :=
  completeEvex (evexForm .EVEX_Vpcmpeqd_kr_k1_xmm_xmmm128b32 128
    [.kreg, .vvvv .XMM, .rm .XMM] .k1 .Packed128_Int32 (some (.Broadcast128_Int32, 4)))
    .m0F .P66 p reg rm none s

/-- R447: `EVEX.256.66.0F.W0 76 /r`. -/
def execEVEX_Vpcmpeqd_kr_k1_ymm_ymmm256b32 (p : EvexPrefix) (reg : BitVec 3) (rm : RMOperand) (s : State) :
    Host.Outcome State Fault Refusal :=
  completeEvex (evexForm .EVEX_Vpcmpeqd_kr_k1_ymm_ymmm256b32 256
    [.kreg, .vvvv .YMM, .rm .YMM] .k1 .Packed256_Int32 (some (.Broadcast256_Int32, 4)))
    .m0F .P66 p reg rm none s

/-- R448: `EVEX.512.66.0F.W0 76 /r`. -/
def execEVEX_Vpcmpeqd_kr_k1_zmm_zmmm512b32 (p : EvexPrefix) (reg : BitVec 3) (rm : RMOperand) (s : State) :
    Host.Outcome State Fault Refusal :=
  completeEvex (evexForm .EVEX_Vpcmpeqd_kr_k1_zmm_zmmm512b32 512
    [.kreg, .vvvv .ZMM, .rm .ZMM] .k1 .Packed512_Int32 (some (.Broadcast512_Int32, 4)))
    .m0F .P66 p reg rm none s

/-- R449: `EVEX.128.66.0F3A.W1 70 /r ib`. -/
def execEVEX_Vpshldw_xmm_k1z_xmm_xmmm128_imm8 (p : EvexPrefix) (reg : BitVec 3) (rm : RMOperand) (ib : Byte) (s : State) :
    Host.Outcome State Fault Refusal :=
  completeEvex (evexForm .EVEX_Vpshldw_xmm_k1z_xmm_xmmm128_imm8 128
    [.reg .XMM, .vvvv .XMM, .rm .XMM, .imm8] .k1z .Packed128_UInt16 none)
    .m0F3A .P66 p reg rm (some ib) s

/-- R450: `EVEX.256.66.0F3A.W1 70 /r ib`. -/
def execEVEX_Vpshldw_ymm_k1z_ymm_ymmm256_imm8 (p : EvexPrefix) (reg : BitVec 3) (rm : RMOperand) (ib : Byte) (s : State) :
    Host.Outcome State Fault Refusal :=
  completeEvex (evexForm .EVEX_Vpshldw_ymm_k1z_ymm_ymmm256_imm8 256
    [.reg .YMM, .vvvv .YMM, .rm .YMM, .imm8] .k1z .Packed256_UInt16 none)
    .m0F3A .P66 p reg rm (some ib) s

/-- R451: `EVEX.512.66.0F3A.W1 70 /r ib`. -/
def execEVEX_Vpshldw_zmm_k1z_zmm_zmmm512_imm8 (p : EvexPrefix) (reg : BitVec 3) (rm : RMOperand) (ib : Byte) (s : State) :
    Host.Outcome State Fault Refusal :=
  completeEvex (evexForm .EVEX_Vpshldw_zmm_k1z_zmm_zmmm512_imm8 512
    [.reg .ZMM, .vvvv .ZMM, .rm .ZMM, .imm8] .k1z .Packed512_UInt16 none)
    .m0F3A .P66 p reg rm (some ib) s

/-- R452: `EVEX.128.66.0F3A.W0 71 /r ib`. -/
def execEVEX_Vpshldd_xmm_k1z_xmm_xmmm128b32_imm8 (p : EvexPrefix) (reg : BitVec 3) (rm : RMOperand) (ib : Byte) (s : State) :
    Host.Outcome State Fault Refusal :=
  completeEvex (evexForm .EVEX_Vpshldd_xmm_k1z_xmm_xmmm128b32_imm8 128
    [.reg .XMM, .vvvv .XMM, .rm .XMM, .imm8] .k1z .Packed128_UInt32 (some (.Broadcast128_UInt32, 4)))
    .m0F3A .P66 p reg rm (some ib) s

/-- R453: `EVEX.256.66.0F3A.W0 71 /r ib`. -/
def execEVEX_Vpshldd_ymm_k1z_ymm_ymmm256b32_imm8 (p : EvexPrefix) (reg : BitVec 3) (rm : RMOperand) (ib : Byte) (s : State) :
    Host.Outcome State Fault Refusal :=
  completeEvex (evexForm .EVEX_Vpshldd_ymm_k1z_ymm_ymmm256b32_imm8 256
    [.reg .YMM, .vvvv .YMM, .rm .YMM, .imm8] .k1z .Packed256_UInt32 (some (.Broadcast256_UInt32, 4)))
    .m0F3A .P66 p reg rm (some ib) s

/-- R454: `EVEX.512.66.0F3A.W0 71 /r ib`. -/
def execEVEX_Vpshldd_zmm_k1z_zmm_zmmm512b32_imm8 (p : EvexPrefix) (reg : BitVec 3) (rm : RMOperand) (ib : Byte) (s : State) :
    Host.Outcome State Fault Refusal :=
  completeEvex (evexForm .EVEX_Vpshldd_zmm_k1z_zmm_zmmm512b32_imm8 512
    [.reg .ZMM, .vvvv .ZMM, .rm .ZMM, .imm8] .k1z .Packed512_UInt32 (some (.Broadcast512_UInt32, 4)))
    .m0F3A .P66 p reg rm (some ib) s

/-- R455: `EVEX.128.66.0F3A.W1 71 /r ib`. -/
def execEVEX_Vpshldq_xmm_k1z_xmm_xmmm128b64_imm8 (p : EvexPrefix) (reg : BitVec 3) (rm : RMOperand) (ib : Byte) (s : State) :
    Host.Outcome State Fault Refusal :=
  completeEvex (evexForm .EVEX_Vpshldq_xmm_k1z_xmm_xmmm128b64_imm8 128
    [.reg .XMM, .vvvv .XMM, .rm .XMM, .imm8] .k1z .Packed128_UInt64 (some (.Broadcast128_UInt64, 8)))
    .m0F3A .P66 p reg rm (some ib) s

/-- R456: `EVEX.256.66.0F3A.W1 71 /r ib`. -/
def execEVEX_Vpshldq_ymm_k1z_ymm_ymmm256b64_imm8 (p : EvexPrefix) (reg : BitVec 3) (rm : RMOperand) (ib : Byte) (s : State) :
    Host.Outcome State Fault Refusal :=
  completeEvex (evexForm .EVEX_Vpshldq_ymm_k1z_ymm_ymmm256b64_imm8 256
    [.reg .YMM, .vvvv .YMM, .rm .YMM, .imm8] .k1z .Packed256_UInt64 (some (.Broadcast256_UInt64, 8)))
    .m0F3A .P66 p reg rm (some ib) s

/-- R457: `EVEX.512.66.0F3A.W1 71 /r ib`. -/
def execEVEX_Vpshldq_zmm_k1z_zmm_zmmm512b64_imm8 (p : EvexPrefix) (reg : BitVec 3) (rm : RMOperand) (ib : Byte) (s : State) :
    Host.Outcome State Fault Refusal :=
  completeEvex (evexForm .EVEX_Vpshldq_zmm_k1z_zmm_zmmm512b64_imm8 512
    [.reg .ZMM, .vvvv .ZMM, .rm .ZMM, .imm8] .k1z .Packed512_UInt64 (some (.Broadcast512_UInt64, 8)))
    .m0F3A .P66 p reg rm (some ib) s

/-- R458: `EVEX.128.66.0F3A.W1 72 /r ib`. -/
def execEVEX_Vpshrdw_xmm_k1z_xmm_xmmm128_imm8 (p : EvexPrefix) (reg : BitVec 3) (rm : RMOperand) (ib : Byte) (s : State) :
    Host.Outcome State Fault Refusal :=
  completeEvex (evexForm .EVEX_Vpshrdw_xmm_k1z_xmm_xmmm128_imm8 128
    [.reg .XMM, .vvvv .XMM, .rm .XMM, .imm8] .k1z .Packed128_UInt16 none)
    .m0F3A .P66 p reg rm (some ib) s

/-- R459: `EVEX.256.66.0F3A.W1 72 /r ib`. -/
def execEVEX_Vpshrdw_ymm_k1z_ymm_ymmm256_imm8 (p : EvexPrefix) (reg : BitVec 3) (rm : RMOperand) (ib : Byte) (s : State) :
    Host.Outcome State Fault Refusal :=
  completeEvex (evexForm .EVEX_Vpshrdw_ymm_k1z_ymm_ymmm256_imm8 256
    [.reg .YMM, .vvvv .YMM, .rm .YMM, .imm8] .k1z .Packed256_UInt16 none)
    .m0F3A .P66 p reg rm (some ib) s

/-- R460: `EVEX.512.66.0F3A.W1 72 /r ib`. -/
def execEVEX_Vpshrdw_zmm_k1z_zmm_zmmm512_imm8 (p : EvexPrefix) (reg : BitVec 3) (rm : RMOperand) (ib : Byte) (s : State) :
    Host.Outcome State Fault Refusal :=
  completeEvex (evexForm .EVEX_Vpshrdw_zmm_k1z_zmm_zmmm512_imm8 512
    [.reg .ZMM, .vvvv .ZMM, .rm .ZMM, .imm8] .k1z .Packed512_UInt16 none)
    .m0F3A .P66 p reg rm (some ib) s

/-- R461: `EVEX.128.66.0F3A.W0 73 /r ib`. -/
def execEVEX_Vpshrdd_xmm_k1z_xmm_xmmm128b32_imm8 (p : EvexPrefix) (reg : BitVec 3) (rm : RMOperand) (ib : Byte) (s : State) :
    Host.Outcome State Fault Refusal :=
  completeEvex (evexForm .EVEX_Vpshrdd_xmm_k1z_xmm_xmmm128b32_imm8 128
    [.reg .XMM, .vvvv .XMM, .rm .XMM, .imm8] .k1z .Packed128_UInt32 (some (.Broadcast128_UInt32, 4)))
    .m0F3A .P66 p reg rm (some ib) s

/-- R462: `EVEX.256.66.0F3A.W0 73 /r ib`. -/
def execEVEX_Vpshrdd_ymm_k1z_ymm_ymmm256b32_imm8 (p : EvexPrefix) (reg : BitVec 3) (rm : RMOperand) (ib : Byte) (s : State) :
    Host.Outcome State Fault Refusal :=
  completeEvex (evexForm .EVEX_Vpshrdd_ymm_k1z_ymm_ymmm256b32_imm8 256
    [.reg .YMM, .vvvv .YMM, .rm .YMM, .imm8] .k1z .Packed256_UInt32 (some (.Broadcast256_UInt32, 4)))
    .m0F3A .P66 p reg rm (some ib) s

/-- R463: `EVEX.512.66.0F3A.W0 73 /r ib`. -/
def execEVEX_Vpshrdd_zmm_k1z_zmm_zmmm512b32_imm8 (p : EvexPrefix) (reg : BitVec 3) (rm : RMOperand) (ib : Byte) (s : State) :
    Host.Outcome State Fault Refusal :=
  completeEvex (evexForm .EVEX_Vpshrdd_zmm_k1z_zmm_zmmm512b32_imm8 512
    [.reg .ZMM, .vvvv .ZMM, .rm .ZMM, .imm8] .k1z .Packed512_UInt32 (some (.Broadcast512_UInt32, 4)))
    .m0F3A .P66 p reg rm (some ib) s

/-- R464: `EVEX.128.66.0F3A.W1 73 /r ib`. -/
def execEVEX_Vpshrdq_xmm_k1z_xmm_xmmm128b64_imm8 (p : EvexPrefix) (reg : BitVec 3) (rm : RMOperand) (ib : Byte) (s : State) :
    Host.Outcome State Fault Refusal :=
  completeEvex (evexForm .EVEX_Vpshrdq_xmm_k1z_xmm_xmmm128b64_imm8 128
    [.reg .XMM, .vvvv .XMM, .rm .XMM, .imm8] .k1z .Packed128_UInt64 (some (.Broadcast128_UInt64, 8)))
    .m0F3A .P66 p reg rm (some ib) s

/-- R465: `EVEX.256.66.0F3A.W1 73 /r ib`. -/
def execEVEX_Vpshrdq_ymm_k1z_ymm_ymmm256b64_imm8 (p : EvexPrefix) (reg : BitVec 3) (rm : RMOperand) (ib : Byte) (s : State) :
    Host.Outcome State Fault Refusal :=
  completeEvex (evexForm .EVEX_Vpshrdq_ymm_k1z_ymm_ymmm256b64_imm8 256
    [.reg .YMM, .vvvv .YMM, .rm .YMM, .imm8] .k1z .Packed256_UInt64 (some (.Broadcast256_UInt64, 8)))
    .m0F3A .P66 p reg rm (some ib) s

/-- R466: `EVEX.512.66.0F3A.W1 73 /r ib`. -/
def execEVEX_Vpshrdq_zmm_k1z_zmm_zmmm512b64_imm8 (p : EvexPrefix) (reg : BitVec 3) (rm : RMOperand) (ib : Byte) (s : State) :
    Host.Outcome State Fault Refusal :=
  completeEvex (evexForm .EVEX_Vpshrdq_zmm_k1z_zmm_zmmm512b64_imm8 512
    [.reg .ZMM, .vvvv .ZMM, .rm .ZMM, .imm8] .k1z .Packed512_UInt64 (some (.Broadcast512_UInt64, 8)))
    .m0F3A .P66 p reg rm (some ib) s

end Sys2Proof.Machine
end

