-- ==== Sys2Proof/Machine/EvexShift.lean ====
section
/-! DEFINITION. The meanings of the EVEX instructions, map 0F opcodes 72 /2 /4 /6 and 73
(spec/48_evex_0f72sh_0f73.md R410 to R433): each is the record its rule gives, written from the rule's
pseudocode, over the shared work `complete`. -/

namespace Sys2Proof.Machine

open Sys2Proof

/-- R410: `EVEX.128.66.0F.W0 72 /2 ib`. -/
def execEVEX_Vpsrld_xmm_k1z_xmmm128b32_imm8 (p : EvexPrefix) (rm : RMOperand) (ib : Byte) (s : State) :
    Host.Outcome State Fault Refusal :=
  completeEvex (evexForm .EVEX_Vpsrld_xmm_k1z_xmmm128b32_imm8 128
    [.vvvv .XMM, .rm .XMM, .imm8] .k1z .Packed128_UInt32 (some (.Broadcast128_UInt32, 4)))
    .m0F .P66 p 0 rm (some ib) s

/-- R411: `EVEX.256.66.0F.W0 72 /2 ib`. -/
def execEVEX_Vpsrld_ymm_k1z_ymmm256b32_imm8 (p : EvexPrefix) (rm : RMOperand) (ib : Byte) (s : State) :
    Host.Outcome State Fault Refusal :=
  completeEvex (evexForm .EVEX_Vpsrld_ymm_k1z_ymmm256b32_imm8 256
    [.vvvv .YMM, .rm .YMM, .imm8] .k1z .Packed256_UInt32 (some (.Broadcast256_UInt32, 4)))
    .m0F .P66 p 0 rm (some ib) s

/-- R412: `EVEX.512.66.0F.W0 72 /2 ib`. -/
def execEVEX_Vpsrld_zmm_k1z_zmmm512b32_imm8 (p : EvexPrefix) (rm : RMOperand) (ib : Byte) (s : State) :
    Host.Outcome State Fault Refusal :=
  completeEvex (evexForm .EVEX_Vpsrld_zmm_k1z_zmmm512b32_imm8 512
    [.vvvv .ZMM, .rm .ZMM, .imm8] .k1z .Packed512_UInt32 (some (.Broadcast512_UInt32, 4)))
    .m0F .P66 p 0 rm (some ib) s

/-- R413: `EVEX.128.66.0F.W0 72 /4 ib`. -/
def execEVEX_Vpsrad_xmm_k1z_xmmm128b32_imm8 (p : EvexPrefix) (rm : RMOperand) (ib : Byte) (s : State) :
    Host.Outcome State Fault Refusal :=
  completeEvex (evexForm .EVEX_Vpsrad_xmm_k1z_xmmm128b32_imm8 128
    [.vvvv .XMM, .rm .XMM, .imm8] .k1z .Packed128_Int32 (some (.Broadcast128_Int32, 4)))
    .m0F .P66 p 0 rm (some ib) s

/-- R414: `EVEX.256.66.0F.W0 72 /4 ib`. -/
def execEVEX_Vpsrad_ymm_k1z_ymmm256b32_imm8 (p : EvexPrefix) (rm : RMOperand) (ib : Byte) (s : State) :
    Host.Outcome State Fault Refusal :=
  completeEvex (evexForm .EVEX_Vpsrad_ymm_k1z_ymmm256b32_imm8 256
    [.vvvv .YMM, .rm .YMM, .imm8] .k1z .Packed256_Int32 (some (.Broadcast256_Int32, 4)))
    .m0F .P66 p 0 rm (some ib) s

/-- R415: `EVEX.512.66.0F.W0 72 /4 ib`. -/
def execEVEX_Vpsrad_zmm_k1z_zmmm512b32_imm8 (p : EvexPrefix) (rm : RMOperand) (ib : Byte) (s : State) :
    Host.Outcome State Fault Refusal :=
  completeEvex (evexForm .EVEX_Vpsrad_zmm_k1z_zmmm512b32_imm8 512
    [.vvvv .ZMM, .rm .ZMM, .imm8] .k1z .Packed512_Int32 (some (.Broadcast512_Int32, 4)))
    .m0F .P66 p 0 rm (some ib) s

/-- R416: `EVEX.128.66.0F.W1 72 /4 ib`. -/
def execEVEX_Vpsraq_xmm_k1z_xmmm128b64_imm8 (p : EvexPrefix) (rm : RMOperand) (ib : Byte) (s : State) :
    Host.Outcome State Fault Refusal :=
  completeEvex (evexForm .EVEX_Vpsraq_xmm_k1z_xmmm128b64_imm8 128
    [.vvvv .XMM, .rm .XMM, .imm8] .k1z .Packed128_Int64 (some (.Broadcast128_Int64, 8)))
    .m0F .P66 p 0 rm (some ib) s

/-- R417: `EVEX.256.66.0F.W1 72 /4 ib`. -/
def execEVEX_Vpsraq_ymm_k1z_ymmm256b64_imm8 (p : EvexPrefix) (rm : RMOperand) (ib : Byte) (s : State) :
    Host.Outcome State Fault Refusal :=
  completeEvex (evexForm .EVEX_Vpsraq_ymm_k1z_ymmm256b64_imm8 256
    [.vvvv .YMM, .rm .YMM, .imm8] .k1z .Packed256_Int64 (some (.Broadcast256_Int64, 8)))
    .m0F .P66 p 0 rm (some ib) s

/-- R418: `EVEX.512.66.0F.W1 72 /4 ib`. -/
def execEVEX_Vpsraq_zmm_k1z_zmmm512b64_imm8 (p : EvexPrefix) (rm : RMOperand) (ib : Byte) (s : State) :
    Host.Outcome State Fault Refusal :=
  completeEvex (evexForm .EVEX_Vpsraq_zmm_k1z_zmmm512b64_imm8 512
    [.vvvv .ZMM, .rm .ZMM, .imm8] .k1z .Packed512_Int64 (some (.Broadcast512_Int64, 8)))
    .m0F .P66 p 0 rm (some ib) s

/-- R419: `EVEX.128.66.0F.W0 72 /6 ib`. -/
def execEVEX_Vpslld_xmm_k1z_xmmm128b32_imm8 (p : EvexPrefix) (rm : RMOperand) (ib : Byte) (s : State) :
    Host.Outcome State Fault Refusal :=
  completeEvex (evexForm .EVEX_Vpslld_xmm_k1z_xmmm128b32_imm8 128
    [.vvvv .XMM, .rm .XMM, .imm8] .k1z .Packed128_UInt32 (some (.Broadcast128_UInt32, 4)))
    .m0F .P66 p 0 rm (some ib) s

/-- R420: `EVEX.256.66.0F.W0 72 /6 ib`. -/
def execEVEX_Vpslld_ymm_k1z_ymmm256b32_imm8 (p : EvexPrefix) (rm : RMOperand) (ib : Byte) (s : State) :
    Host.Outcome State Fault Refusal :=
  completeEvex (evexForm .EVEX_Vpslld_ymm_k1z_ymmm256b32_imm8 256
    [.vvvv .YMM, .rm .YMM, .imm8] .k1z .Packed256_UInt32 (some (.Broadcast256_UInt32, 4)))
    .m0F .P66 p 0 rm (some ib) s

/-- R421: `EVEX.512.66.0F.W0 72 /6 ib`. -/
def execEVEX_Vpslld_zmm_k1z_zmmm512b32_imm8 (p : EvexPrefix) (rm : RMOperand) (ib : Byte) (s : State) :
    Host.Outcome State Fault Refusal :=
  completeEvex (evexForm .EVEX_Vpslld_zmm_k1z_zmmm512b32_imm8 512
    [.vvvv .ZMM, .rm .ZMM, .imm8] .k1z .Packed512_UInt32 (some (.Broadcast512_UInt32, 4)))
    .m0F .P66 p 0 rm (some ib) s

/-- R422: `EVEX.128.66.0F.W1 73 /2 ib`. -/
def execEVEX_Vpsrlq_xmm_k1z_xmmm128b64_imm8 (p : EvexPrefix) (rm : RMOperand) (ib : Byte) (s : State) :
    Host.Outcome State Fault Refusal :=
  completeEvex (evexForm .EVEX_Vpsrlq_xmm_k1z_xmmm128b64_imm8 128
    [.vvvv .XMM, .rm .XMM, .imm8] .k1z .Packed128_UInt64 (some (.Broadcast128_UInt64, 8)))
    .m0F .P66 p 0 rm (some ib) s

/-- R423: `EVEX.256.66.0F.W1 73 /2 ib`. -/
def execEVEX_Vpsrlq_ymm_k1z_ymmm256b64_imm8 (p : EvexPrefix) (rm : RMOperand) (ib : Byte) (s : State) :
    Host.Outcome State Fault Refusal :=
  completeEvex (evexForm .EVEX_Vpsrlq_ymm_k1z_ymmm256b64_imm8 256
    [.vvvv .YMM, .rm .YMM, .imm8] .k1z .Packed256_UInt64 (some (.Broadcast256_UInt64, 8)))
    .m0F .P66 p 0 rm (some ib) s

/-- R424: `EVEX.512.66.0F.W1 73 /2 ib`. -/
def execEVEX_Vpsrlq_zmm_k1z_zmmm512b64_imm8 (p : EvexPrefix) (rm : RMOperand) (ib : Byte) (s : State) :
    Host.Outcome State Fault Refusal :=
  completeEvex (evexForm .EVEX_Vpsrlq_zmm_k1z_zmmm512b64_imm8 512
    [.vvvv .ZMM, .rm .ZMM, .imm8] .k1z .Packed512_UInt64 (some (.Broadcast512_UInt64, 8)))
    .m0F .P66 p 0 rm (some ib) s

/-- R425: `EVEX.128.66.0F.WIG 73 /3 ib`. -/
def execEVEX_Vpsrldq_xmm_xmmm128_imm8 (p : EvexPrefix) (rm : RMOperand) (ib : Byte) (s : State) :
    Host.Outcome State Fault Refusal :=
  completeEvex (evexForm .EVEX_Vpsrldq_xmm_xmmm128_imm8 128
    [.vvvv .XMM, .rm .XMM, .imm8] .none .UInt128 none)
    .m0F .P66 p 0 rm (some ib) s

/-- R426: `EVEX.256.66.0F.WIG 73 /3 ib`. -/
def execEVEX_Vpsrldq_ymm_ymmm256_imm8 (p : EvexPrefix) (rm : RMOperand) (ib : Byte) (s : State) :
    Host.Outcome State Fault Refusal :=
  completeEvex (evexForm .EVEX_Vpsrldq_ymm_ymmm256_imm8 256
    [.vvvv .YMM, .rm .YMM, .imm8] .none .UInt256 none)
    .m0F .P66 p 0 rm (some ib) s

/-- R427: `EVEX.512.66.0F.WIG 73 /3 ib`. -/
def execEVEX_Vpsrldq_zmm_zmmm512_imm8 (p : EvexPrefix) (rm : RMOperand) (ib : Byte) (s : State) :
    Host.Outcome State Fault Refusal :=
  completeEvex (evexForm .EVEX_Vpsrldq_zmm_zmmm512_imm8 512
    [.vvvv .ZMM, .rm .ZMM, .imm8] .none .UInt512 none)
    .m0F .P66 p 0 rm (some ib) s

/-- R428: `EVEX.128.66.0F.W1 73 /6 ib`. -/
def execEVEX_Vpsllq_xmm_k1z_xmmm128b64_imm8 (p : EvexPrefix) (rm : RMOperand) (ib : Byte) (s : State) :
    Host.Outcome State Fault Refusal :=
  completeEvex (evexForm .EVEX_Vpsllq_xmm_k1z_xmmm128b64_imm8 128
    [.vvvv .XMM, .rm .XMM, .imm8] .k1z .Packed128_UInt64 (some (.Broadcast128_UInt64, 8)))
    .m0F .P66 p 0 rm (some ib) s

/-- R429: `EVEX.256.66.0F.W1 73 /6 ib`. -/
def execEVEX_Vpsllq_ymm_k1z_ymmm256b64_imm8 (p : EvexPrefix) (rm : RMOperand) (ib : Byte) (s : State) :
    Host.Outcome State Fault Refusal :=
  completeEvex (evexForm .EVEX_Vpsllq_ymm_k1z_ymmm256b64_imm8 256
    [.vvvv .YMM, .rm .YMM, .imm8] .k1z .Packed256_UInt64 (some (.Broadcast256_UInt64, 8)))
    .m0F .P66 p 0 rm (some ib) s

/-- R430: `EVEX.512.66.0F.W1 73 /6 ib`. -/
def execEVEX_Vpsllq_zmm_k1z_zmmm512b64_imm8 (p : EvexPrefix) (rm : RMOperand) (ib : Byte) (s : State) :
    Host.Outcome State Fault Refusal :=
  completeEvex (evexForm .EVEX_Vpsllq_zmm_k1z_zmmm512b64_imm8 512
    [.vvvv .ZMM, .rm .ZMM, .imm8] .k1z .Packed512_UInt64 (some (.Broadcast512_UInt64, 8)))
    .m0F .P66 p 0 rm (some ib) s

/-- R431: `EVEX.128.66.0F.WIG 73 /7 ib`. -/
def execEVEX_Vpslldq_xmm_xmmm128_imm8 (p : EvexPrefix) (rm : RMOperand) (ib : Byte) (s : State) :
    Host.Outcome State Fault Refusal :=
  completeEvex (evexForm .EVEX_Vpslldq_xmm_xmmm128_imm8 128
    [.vvvv .XMM, .rm .XMM, .imm8] .none .UInt128 none)
    .m0F .P66 p 0 rm (some ib) s

/-- R432: `EVEX.256.66.0F.WIG 73 /7 ib`. -/
def execEVEX_Vpslldq_ymm_ymmm256_imm8 (p : EvexPrefix) (rm : RMOperand) (ib : Byte) (s : State) :
    Host.Outcome State Fault Refusal :=
  completeEvex (evexForm .EVEX_Vpslldq_ymm_ymmm256_imm8 256
    [.vvvv .YMM, .rm .YMM, .imm8] .none .UInt256 none)
    .m0F .P66 p 0 rm (some ib) s

/-- R433: `EVEX.512.66.0F.WIG 73 /7 ib`. -/
def execEVEX_Vpslldq_zmm_zmmm512_imm8 (p : EvexPrefix) (rm : RMOperand) (ib : Byte) (s : State) :
    Host.Outcome State Fault Refusal :=
  completeEvex (evexForm .EVEX_Vpslldq_zmm_zmmm512_imm8 512
    [.vvvv .ZMM, .rm .ZMM, .imm8] .none .UInt512 none)
    .m0F .P66 p 0 rm (some ib) s

end Sys2Proof.Machine
end

