-- ==== Sys2Proof/Machine/EvexShuffleRotate.lean ====
section
/-! DEFINITION. The meanings of the EVEX instructions, map 0F opcodes 70, 71 and 72 /0 /1
(spec/47_evex_0f70_0f72rot.md R380 to R409): each is the record its rule gives, written from the rule's
pseudocode, over the shared work `complete`. -/

namespace Sys2Proof.Machine

open Sys2Proof

/-- R380: `EVEX.128.66.0F.W0 70 /r ib`. -/
def execEVEX_Vpshufd_xmm_k1z_xmmm128b32_imm8 (p : EvexPrefix) (reg : BitVec 3) (rm : RMOperand) (ib : Byte) (s : State) :
    Host.Outcome State Fault Refusal :=
  completeEvex (evexForm .EVEX_Vpshufd_xmm_k1z_xmmm128b32_imm8 128
    [.reg .XMM, .rm .XMM, .imm8] .k1z .Packed128_Int32 (some (.Broadcast128_Int32, 4)))
    .m0F .P66 p reg rm (some ib) s

/-- R381: `EVEX.256.66.0F.W0 70 /r ib`. -/
def execEVEX_Vpshufd_ymm_k1z_ymmm256b32_imm8 (p : EvexPrefix) (reg : BitVec 3) (rm : RMOperand) (ib : Byte) (s : State) :
    Host.Outcome State Fault Refusal :=
  completeEvex (evexForm .EVEX_Vpshufd_ymm_k1z_ymmm256b32_imm8 256
    [.reg .YMM, .rm .YMM, .imm8] .k1z .Packed256_Int32 (some (.Broadcast256_Int32, 4)))
    .m0F .P66 p reg rm (some ib) s

/-- R382: `EVEX.512.66.0F.W0 70 /r ib`. -/
def execEVEX_Vpshufd_zmm_k1z_zmmm512b32_imm8 (p : EvexPrefix) (reg : BitVec 3) (rm : RMOperand) (ib : Byte) (s : State) :
    Host.Outcome State Fault Refusal :=
  completeEvex (evexForm .EVEX_Vpshufd_zmm_k1z_zmmm512b32_imm8 512
    [.reg .ZMM, .rm .ZMM, .imm8] .k1z .Packed512_Int32 (some (.Broadcast512_Int32, 4)))
    .m0F .P66 p reg rm (some ib) s

/-- R383: `EVEX.128.F3.0F.WIG 70 /r ib`. -/
def execEVEX_Vpshufhw_xmm_k1z_xmmm128_imm8 (p : EvexPrefix) (reg : BitVec 3) (rm : RMOperand) (ib : Byte) (s : State) :
    Host.Outcome State Fault Refusal :=
  completeEvex (evexForm .EVEX_Vpshufhw_xmm_k1z_xmmm128_imm8 128
    [.reg .XMM, .rm .XMM, .imm8] .k1z .Packed128_Int16 none)
    .m0F .PF3 p reg rm (some ib) s

/-- R384: `EVEX.256.F3.0F.WIG 70 /r ib`. -/
def execEVEX_Vpshufhw_ymm_k1z_ymmm256_imm8 (p : EvexPrefix) (reg : BitVec 3) (rm : RMOperand) (ib : Byte) (s : State) :
    Host.Outcome State Fault Refusal :=
  completeEvex (evexForm .EVEX_Vpshufhw_ymm_k1z_ymmm256_imm8 256
    [.reg .YMM, .rm .YMM, .imm8] .k1z .Packed256_Int16 none)
    .m0F .PF3 p reg rm (some ib) s

/-- R385: `EVEX.512.F3.0F.WIG 70 /r ib`. -/
def execEVEX_Vpshufhw_zmm_k1z_zmmm512_imm8 (p : EvexPrefix) (reg : BitVec 3) (rm : RMOperand) (ib : Byte) (s : State) :
    Host.Outcome State Fault Refusal :=
  completeEvex (evexForm .EVEX_Vpshufhw_zmm_k1z_zmmm512_imm8 512
    [.reg .ZMM, .rm .ZMM, .imm8] .k1z .Packed512_Int16 none)
    .m0F .PF3 p reg rm (some ib) s

/-- R386: `EVEX.128.F2.0F.WIG 70 /r ib`. -/
def execEVEX_Vpshuflw_xmm_k1z_xmmm128_imm8 (p : EvexPrefix) (reg : BitVec 3) (rm : RMOperand) (ib : Byte) (s : State) :
    Host.Outcome State Fault Refusal :=
  completeEvex (evexForm .EVEX_Vpshuflw_xmm_k1z_xmmm128_imm8 128
    [.reg .XMM, .rm .XMM, .imm8] .k1z .Packed128_Int16 none)
    .m0F .PF2 p reg rm (some ib) s

/-- R387: `EVEX.256.F2.0F.WIG 70 /r ib`. -/
def execEVEX_Vpshuflw_ymm_k1z_ymmm256_imm8 (p : EvexPrefix) (reg : BitVec 3) (rm : RMOperand) (ib : Byte) (s : State) :
    Host.Outcome State Fault Refusal :=
  completeEvex (evexForm .EVEX_Vpshuflw_ymm_k1z_ymmm256_imm8 256
    [.reg .YMM, .rm .YMM, .imm8] .k1z .Packed256_Int16 none)
    .m0F .PF2 p reg rm (some ib) s

/-- R388: `EVEX.512.F2.0F.WIG 70 /r ib`. -/
def execEVEX_Vpshuflw_zmm_k1z_zmmm512_imm8 (p : EvexPrefix) (reg : BitVec 3) (rm : RMOperand) (ib : Byte) (s : State) :
    Host.Outcome State Fault Refusal :=
  completeEvex (evexForm .EVEX_Vpshuflw_zmm_k1z_zmmm512_imm8 512
    [.reg .ZMM, .rm .ZMM, .imm8] .k1z .Packed512_Int16 none)
    .m0F .PF2 p reg rm (some ib) s

/-- R389: `EVEX.128.66.0F.WIG 71 /2 ib`. -/
def execEVEX_Vpsrlw_xmm_k1z_xmmm128_imm8 (p : EvexPrefix) (rm : RMOperand) (ib : Byte) (s : State) :
    Host.Outcome State Fault Refusal :=
  completeEvex (evexForm .EVEX_Vpsrlw_xmm_k1z_xmmm128_imm8 128
    [.vvvv .XMM, .rm .XMM, .imm8] .k1z .Packed128_UInt16 none)
    .m0F .P66 p 0 rm (some ib) s

/-- R390: `EVEX.256.66.0F.WIG 71 /2 ib`. -/
def execEVEX_Vpsrlw_ymm_k1z_ymmm256_imm8 (p : EvexPrefix) (rm : RMOperand) (ib : Byte) (s : State) :
    Host.Outcome State Fault Refusal :=
  completeEvex (evexForm .EVEX_Vpsrlw_ymm_k1z_ymmm256_imm8 256
    [.vvvv .YMM, .rm .YMM, .imm8] .k1z .Packed256_UInt16 none)
    .m0F .P66 p 0 rm (some ib) s

/-- R391: `EVEX.512.66.0F.WIG 71 /2 ib`. -/
def execEVEX_Vpsrlw_zmm_k1z_zmmm512_imm8 (p : EvexPrefix) (rm : RMOperand) (ib : Byte) (s : State) :
    Host.Outcome State Fault Refusal :=
  completeEvex (evexForm .EVEX_Vpsrlw_zmm_k1z_zmmm512_imm8 512
    [.vvvv .ZMM, .rm .ZMM, .imm8] .k1z .Packed512_UInt16 none)
    .m0F .P66 p 0 rm (some ib) s

/-- R392: `EVEX.128.66.0F.WIG 71 /4 ib`. -/
def execEVEX_Vpsraw_xmm_k1z_xmmm128_imm8 (p : EvexPrefix) (rm : RMOperand) (ib : Byte) (s : State) :
    Host.Outcome State Fault Refusal :=
  completeEvex (evexForm .EVEX_Vpsraw_xmm_k1z_xmmm128_imm8 128
    [.vvvv .XMM, .rm .XMM, .imm8] .k1z .Packed128_Int16 none)
    .m0F .P66 p 0 rm (some ib) s

/-- R393: `EVEX.256.66.0F.WIG 71 /4 ib`. -/
def execEVEX_Vpsraw_ymm_k1z_ymmm256_imm8 (p : EvexPrefix) (rm : RMOperand) (ib : Byte) (s : State) :
    Host.Outcome State Fault Refusal :=
  completeEvex (evexForm .EVEX_Vpsraw_ymm_k1z_ymmm256_imm8 256
    [.vvvv .YMM, .rm .YMM, .imm8] .k1z .Packed256_Int16 none)
    .m0F .P66 p 0 rm (some ib) s

/-- R394: `EVEX.512.66.0F.WIG 71 /4 ib`. -/
def execEVEX_Vpsraw_zmm_k1z_zmmm512_imm8 (p : EvexPrefix) (rm : RMOperand) (ib : Byte) (s : State) :
    Host.Outcome State Fault Refusal :=
  completeEvex (evexForm .EVEX_Vpsraw_zmm_k1z_zmmm512_imm8 512
    [.vvvv .ZMM, .rm .ZMM, .imm8] .k1z .Packed512_Int16 none)
    .m0F .P66 p 0 rm (some ib) s

/-- R395: `EVEX.128.66.0F.WIG 71 /6 ib`. -/
def execEVEX_Vpsllw_xmm_k1z_xmmm128_imm8 (p : EvexPrefix) (rm : RMOperand) (ib : Byte) (s : State) :
    Host.Outcome State Fault Refusal :=
  completeEvex (evexForm .EVEX_Vpsllw_xmm_k1z_xmmm128_imm8 128
    [.vvvv .XMM, .rm .XMM, .imm8] .k1z .Packed128_UInt16 none)
    .m0F .P66 p 0 rm (some ib) s

/-- R396: `EVEX.256.66.0F.WIG 71 /6 ib`. -/
def execEVEX_Vpsllw_ymm_k1z_ymmm256_imm8 (p : EvexPrefix) (rm : RMOperand) (ib : Byte) (s : State) :
    Host.Outcome State Fault Refusal :=
  completeEvex (evexForm .EVEX_Vpsllw_ymm_k1z_ymmm256_imm8 256
    [.vvvv .YMM, .rm .YMM, .imm8] .k1z .Packed256_UInt16 none)
    .m0F .P66 p 0 rm (some ib) s

/-- R397: `EVEX.512.66.0F.WIG 71 /6 ib`. -/
def execEVEX_Vpsllw_zmm_k1z_zmmm512_imm8 (p : EvexPrefix) (rm : RMOperand) (ib : Byte) (s : State) :
    Host.Outcome State Fault Refusal :=
  completeEvex (evexForm .EVEX_Vpsllw_zmm_k1z_zmmm512_imm8 512
    [.vvvv .ZMM, .rm .ZMM, .imm8] .k1z .Packed512_UInt16 none)
    .m0F .P66 p 0 rm (some ib) s

/-- R398: `EVEX.128.66.0F.W0 72 /0 ib`. -/
def execEVEX_Vprord_xmm_k1z_xmmm128b32_imm8 (p : EvexPrefix) (rm : RMOperand) (ib : Byte) (s : State) :
    Host.Outcome State Fault Refusal :=
  completeEvex (evexForm .EVEX_Vprord_xmm_k1z_xmmm128b32_imm8 128
    [.vvvv .XMM, .rm .XMM, .imm8] .k1z .Packed128_UInt32 (some (.Broadcast128_UInt32, 4)))
    .m0F .P66 p 0 rm (some ib) s

/-- R399: `EVEX.256.66.0F.W0 72 /0 ib`. -/
def execEVEX_Vprord_ymm_k1z_ymmm256b32_imm8 (p : EvexPrefix) (rm : RMOperand) (ib : Byte) (s : State) :
    Host.Outcome State Fault Refusal :=
  completeEvex (evexForm .EVEX_Vprord_ymm_k1z_ymmm256b32_imm8 256
    [.vvvv .YMM, .rm .YMM, .imm8] .k1z .Packed256_UInt32 (some (.Broadcast256_UInt32, 4)))
    .m0F .P66 p 0 rm (some ib) s

/-- R400: `EVEX.512.66.0F.W0 72 /0 ib`. -/
def execEVEX_Vprord_zmm_k1z_zmmm512b32_imm8 (p : EvexPrefix) (rm : RMOperand) (ib : Byte) (s : State) :
    Host.Outcome State Fault Refusal :=
  completeEvex (evexForm .EVEX_Vprord_zmm_k1z_zmmm512b32_imm8 512
    [.vvvv .ZMM, .rm .ZMM, .imm8] .k1z .Packed512_UInt32 (some (.Broadcast512_UInt32, 4)))
    .m0F .P66 p 0 rm (some ib) s

/-- R401: `EVEX.128.66.0F.W1 72 /0 ib`. -/
def execEVEX_Vprorq_xmm_k1z_xmmm128b64_imm8 (p : EvexPrefix) (rm : RMOperand) (ib : Byte) (s : State) :
    Host.Outcome State Fault Refusal :=
  completeEvex (evexForm .EVEX_Vprorq_xmm_k1z_xmmm128b64_imm8 128
    [.vvvv .XMM, .rm .XMM, .imm8] .k1z .Packed128_UInt64 (some (.Broadcast128_UInt64, 8)))
    .m0F .P66 p 0 rm (some ib) s

/-- R402: `EVEX.256.66.0F.W1 72 /0 ib`. -/
def execEVEX_Vprorq_ymm_k1z_ymmm256b64_imm8 (p : EvexPrefix) (rm : RMOperand) (ib : Byte) (s : State) :
    Host.Outcome State Fault Refusal :=
  completeEvex (evexForm .EVEX_Vprorq_ymm_k1z_ymmm256b64_imm8 256
    [.vvvv .YMM, .rm .YMM, .imm8] .k1z .Packed256_UInt64 (some (.Broadcast256_UInt64, 8)))
    .m0F .P66 p 0 rm (some ib) s

/-- R403: `EVEX.512.66.0F.W1 72 /0 ib`. -/
def execEVEX_Vprorq_zmm_k1z_zmmm512b64_imm8 (p : EvexPrefix) (rm : RMOperand) (ib : Byte) (s : State) :
    Host.Outcome State Fault Refusal :=
  completeEvex (evexForm .EVEX_Vprorq_zmm_k1z_zmmm512b64_imm8 512
    [.vvvv .ZMM, .rm .ZMM, .imm8] .k1z .Packed512_UInt64 (some (.Broadcast512_UInt64, 8)))
    .m0F .P66 p 0 rm (some ib) s

/-- R404: `EVEX.128.66.0F.W0 72 /1 ib`. -/
def execEVEX_Vprold_xmm_k1z_xmmm128b32_imm8 (p : EvexPrefix) (rm : RMOperand) (ib : Byte) (s : State) :
    Host.Outcome State Fault Refusal :=
  completeEvex (evexForm .EVEX_Vprold_xmm_k1z_xmmm128b32_imm8 128
    [.vvvv .XMM, .rm .XMM, .imm8] .k1z .Packed128_UInt32 (some (.Broadcast128_UInt32, 4)))
    .m0F .P66 p 0 rm (some ib) s

/-- R405: `EVEX.256.66.0F.W0 72 /1 ib`. -/
def execEVEX_Vprold_ymm_k1z_ymmm256b32_imm8 (p : EvexPrefix) (rm : RMOperand) (ib : Byte) (s : State) :
    Host.Outcome State Fault Refusal :=
  completeEvex (evexForm .EVEX_Vprold_ymm_k1z_ymmm256b32_imm8 256
    [.vvvv .YMM, .rm .YMM, .imm8] .k1z .Packed256_UInt32 (some (.Broadcast256_UInt32, 4)))
    .m0F .P66 p 0 rm (some ib) s

/-- R406: `EVEX.512.66.0F.W0 72 /1 ib`. -/
def execEVEX_Vprold_zmm_k1z_zmmm512b32_imm8 (p : EvexPrefix) (rm : RMOperand) (ib : Byte) (s : State) :
    Host.Outcome State Fault Refusal :=
  completeEvex (evexForm .EVEX_Vprold_zmm_k1z_zmmm512b32_imm8 512
    [.vvvv .ZMM, .rm .ZMM, .imm8] .k1z .Packed512_UInt32 (some (.Broadcast512_UInt32, 4)))
    .m0F .P66 p 0 rm (some ib) s

/-- R407: `EVEX.128.66.0F.W1 72 /1 ib`. -/
def execEVEX_Vprolq_xmm_k1z_xmmm128b64_imm8 (p : EvexPrefix) (rm : RMOperand) (ib : Byte) (s : State) :
    Host.Outcome State Fault Refusal :=
  completeEvex (evexForm .EVEX_Vprolq_xmm_k1z_xmmm128b64_imm8 128
    [.vvvv .XMM, .rm .XMM, .imm8] .k1z .Packed128_UInt64 (some (.Broadcast128_UInt64, 8)))
    .m0F .P66 p 0 rm (some ib) s

/-- R408: `EVEX.256.66.0F.W1 72 /1 ib`. -/
def execEVEX_Vprolq_ymm_k1z_ymmm256b64_imm8 (p : EvexPrefix) (rm : RMOperand) (ib : Byte) (s : State) :
    Host.Outcome State Fault Refusal :=
  completeEvex (evexForm .EVEX_Vprolq_ymm_k1z_ymmm256b64_imm8 256
    [.vvvv .YMM, .rm .YMM, .imm8] .k1z .Packed256_UInt64 (some (.Broadcast256_UInt64, 8)))
    .m0F .P66 p 0 rm (some ib) s

/-- R409: `EVEX.512.66.0F.W1 72 /1 ib`. -/
def execEVEX_Vprolq_zmm_k1z_zmmm512b64_imm8 (p : EvexPrefix) (rm : RMOperand) (ib : Byte) (s : State) :
    Host.Outcome State Fault Refusal :=
  completeEvex (evexForm .EVEX_Vprolq_zmm_k1z_zmmm512b64_imm8 512
    [.vvvv .ZMM, .rm .ZMM, .imm8] .k1z .Packed512_UInt64 (some (.Broadcast512_UInt64, 8)))
    .m0F .P66 p 0 rm (some ib) s

end Sys2Proof.Machine
end

