-- ==== Sys2Proof/Machine/Legacy.lean ====
section
/-! DEFINITION. The meanings of the legacy (no VEX/EVEX) instructions, map 0F opcodes 70 to 77
(spec/45_legacy_0f70_0f77.md R300 to R328): each is the record its rule gives, written from the rule's
pseudocode, over the shared work `complete`. -/

namespace Sys2Proof.Machine

open Sys2Proof

/-- R300: `NP 0F 70 /r ib`. -/
def execPshufw_mm_mmm64_imm8 (p : LegacyPrefix) (reg : BitVec 3) (rm : RMOperand) (ib : Byte) (s : State) :
    Host.Outcome State Fault Refusal :=
  completeLegacy (legacyForm .Pshufw_mm_mmm64_imm8 [.reg .MM, .rm .MM, .imm8] .Packed64_Int16)
    p reg rm (some ib) s

/-- R301: `66 0F 70 /r ib`. -/
def execPshufd_xmm_xmmm128_imm8 (p : LegacyPrefix) (reg : BitVec 3) (rm : RMOperand) (ib : Byte) (s : State) :
    Host.Outcome State Fault Refusal :=
  completeLegacy (legacyForm .Pshufd_xmm_xmmm128_imm8 [.reg .XMM, .rm .XMM, .imm8] .Packed128_Int32)
    p reg rm (some ib) s

/-- R302: `F3 0F 70 /r ib`. -/
def execPshufhw_xmm_xmmm128_imm8 (p : LegacyPrefix) (reg : BitVec 3) (rm : RMOperand) (ib : Byte) (s : State) :
    Host.Outcome State Fault Refusal :=
  completeLegacy (legacyForm .Pshufhw_xmm_xmmm128_imm8 [.reg .XMM, .rm .XMM, .imm8] .Packed128_Int16)
    p reg rm (some ib) s

/-- R303: `F2 0F 70 /r ib`. -/
def execPshuflw_xmm_xmmm128_imm8 (p : LegacyPrefix) (reg : BitVec 3) (rm : RMOperand) (ib : Byte) (s : State) :
    Host.Outcome State Fault Refusal :=
  completeLegacy (legacyForm .Pshuflw_xmm_xmmm128_imm8 [.reg .XMM, .rm .XMM, .imm8] .Packed128_Int16)
    p reg rm (some ib) s

/-- R304: `NP 0F 71 /2 ib`. -/
def execPsrlw_mm_imm8 (p : LegacyPrefix) (rm : BitVec 3) (ib : Byte) (s : State) : Host.Outcome State Fault Refusal :=
  completeLegacy (legacyForm .Psrlw_mm_imm8 [.rm .MM, .imm8] .Unknown)
    p 0 (.reg rm) (some ib) s

/-- R305: `66 0F 71 /2 ib`. -/
def execPsrlw_xmm_imm8 (p : LegacyPrefix) (rm : BitVec 3) (ib : Byte) (s : State) : Host.Outcome State Fault Refusal :=
  completeLegacy (legacyForm .Psrlw_xmm_imm8 [.rm .XMM, .imm8] .Unknown)
    p 0 (.reg rm) (some ib) s

/-- R306: `NP 0F 71 /4 ib`. -/
def execPsraw_mm_imm8 (p : LegacyPrefix) (rm : BitVec 3) (ib : Byte) (s : State) : Host.Outcome State Fault Refusal :=
  completeLegacy (legacyForm .Psraw_mm_imm8 [.rm .MM, .imm8] .Unknown)
    p 0 (.reg rm) (some ib) s

/-- R307: `66 0F 71 /4 ib`. -/
def execPsraw_xmm_imm8 (p : LegacyPrefix) (rm : BitVec 3) (ib : Byte) (s : State) : Host.Outcome State Fault Refusal :=
  completeLegacy (legacyForm .Psraw_xmm_imm8 [.rm .XMM, .imm8] .Unknown)
    p 0 (.reg rm) (some ib) s

/-- R308: `NP 0F 71 /6 ib`. -/
def execPsllw_mm_imm8 (p : LegacyPrefix) (rm : BitVec 3) (ib : Byte) (s : State) : Host.Outcome State Fault Refusal :=
  completeLegacy (legacyForm .Psllw_mm_imm8 [.rm .MM, .imm8] .Unknown)
    p 0 (.reg rm) (some ib) s

/-- R309: `66 0F 71 /6 ib`. -/
def execPsllw_xmm_imm8 (p : LegacyPrefix) (rm : BitVec 3) (ib : Byte) (s : State) : Host.Outcome State Fault Refusal :=
  completeLegacy (legacyForm .Psllw_xmm_imm8 [.rm .XMM, .imm8] .Unknown)
    p 0 (.reg rm) (some ib) s

/-- R310: `NP 0F 72 /2 ib`. -/
def execPsrld_mm_imm8 (p : LegacyPrefix) (rm : BitVec 3) (ib : Byte) (s : State) : Host.Outcome State Fault Refusal :=
  completeLegacy (legacyForm .Psrld_mm_imm8 [.rm .MM, .imm8] .Unknown)
    p 0 (.reg rm) (some ib) s

/-- R311: `66 0F 72 /2 ib`. -/
def execPsrld_xmm_imm8 (p : LegacyPrefix) (rm : BitVec 3) (ib : Byte) (s : State) : Host.Outcome State Fault Refusal :=
  completeLegacy (legacyForm .Psrld_xmm_imm8 [.rm .XMM, .imm8] .Unknown)
    p 0 (.reg rm) (some ib) s

/-- R312: `NP 0F 72 /4 ib`. -/
def execPsrad_mm_imm8 (p : LegacyPrefix) (rm : BitVec 3) (ib : Byte) (s : State) : Host.Outcome State Fault Refusal :=
  completeLegacy (legacyForm .Psrad_mm_imm8 [.rm .MM, .imm8] .Unknown)
    p 0 (.reg rm) (some ib) s

/-- R313: `66 0F 72 /4 ib`. -/
def execPsrad_xmm_imm8 (p : LegacyPrefix) (rm : BitVec 3) (ib : Byte) (s : State) : Host.Outcome State Fault Refusal :=
  completeLegacy (legacyForm .Psrad_xmm_imm8 [.rm .XMM, .imm8] .Unknown)
    p 0 (.reg rm) (some ib) s

/-- R314: `NP 0F 72 /6 ib`. -/
def execPslld_mm_imm8 (p : LegacyPrefix) (rm : BitVec 3) (ib : Byte) (s : State) : Host.Outcome State Fault Refusal :=
  completeLegacy (legacyForm .Pslld_mm_imm8 [.rm .MM, .imm8] .Unknown)
    p 0 (.reg rm) (some ib) s

/-- R315: `66 0F 72 /6 ib`. -/
def execPslld_xmm_imm8 (p : LegacyPrefix) (rm : BitVec 3) (ib : Byte) (s : State) : Host.Outcome State Fault Refusal :=
  completeLegacy (legacyForm .Pslld_xmm_imm8 [.rm .XMM, .imm8] .Unknown)
    p 0 (.reg rm) (some ib) s

/-- R316: `NP 0F 73 /2 ib`. -/
def execPsrlq_mm_imm8 (p : LegacyPrefix) (rm : BitVec 3) (ib : Byte) (s : State) : Host.Outcome State Fault Refusal :=
  completeLegacy (legacyForm .Psrlq_mm_imm8 [.rm .MM, .imm8] .Unknown)
    p 0 (.reg rm) (some ib) s

/-- R317: `66 0F 73 /2 ib`. -/
def execPsrlq_xmm_imm8 (p : LegacyPrefix) (rm : BitVec 3) (ib : Byte) (s : State) : Host.Outcome State Fault Refusal :=
  completeLegacy (legacyForm .Psrlq_xmm_imm8 [.rm .XMM, .imm8] .Unknown)
    p 0 (.reg rm) (some ib) s

/-- R318: `66 0F 73 /3 ib`. -/
def execPsrldq_xmm_imm8 (p : LegacyPrefix) (rm : BitVec 3) (ib : Byte) (s : State) : Host.Outcome State Fault Refusal :=
  completeLegacy (legacyForm .Psrldq_xmm_imm8 [.rm .XMM, .imm8] .Unknown)
    p 0 (.reg rm) (some ib) s

/-- R319: `NP 0F 73 /6 ib`. -/
def execPsllq_mm_imm8 (p : LegacyPrefix) (rm : BitVec 3) (ib : Byte) (s : State) : Host.Outcome State Fault Refusal :=
  completeLegacy (legacyForm .Psllq_mm_imm8 [.rm .MM, .imm8] .Unknown)
    p 0 (.reg rm) (some ib) s

/-- R320: `66 0F 73 /6 ib`. -/
def execPsllq_xmm_imm8 (p : LegacyPrefix) (rm : BitVec 3) (ib : Byte) (s : State) : Host.Outcome State Fault Refusal :=
  completeLegacy (legacyForm .Psllq_xmm_imm8 [.rm .XMM, .imm8] .Unknown)
    p 0 (.reg rm) (some ib) s

/-- R321: `66 0F 73 /7 ib`. -/
def execPslldq_xmm_imm8 (p : LegacyPrefix) (rm : BitVec 3) (ib : Byte) (s : State) : Host.Outcome State Fault Refusal :=
  completeLegacy (legacyForm .Pslldq_xmm_imm8 [.rm .XMM, .imm8] .Unknown)
    p 0 (.reg rm) (some ib) s

/-- R322: `NP 0F 74 /r`. -/
def execPcmpeqb_mm_mmm64 (p : LegacyPrefix) (reg : BitVec 3) (rm : RMOperand) (s : State) :
    Host.Outcome State Fault Refusal :=
  completeLegacy (legacyForm .Pcmpeqb_mm_mmm64 [.reg .MM, .rm .MM] .Packed64_Int8)
    p reg rm none s

/-- R323: `66 0F 74 /r`. -/
def execPcmpeqb_xmm_xmmm128 (p : LegacyPrefix) (reg : BitVec 3) (rm : RMOperand) (s : State) :
    Host.Outcome State Fault Refusal :=
  completeLegacy (legacyForm .Pcmpeqb_xmm_xmmm128 [.reg .XMM, .rm .XMM] .Packed128_Int8)
    p reg rm none s

/-- R324: `NP 0F 75 /r`. -/
def execPcmpeqw_mm_mmm64 (p : LegacyPrefix) (reg : BitVec 3) (rm : RMOperand) (s : State) :
    Host.Outcome State Fault Refusal :=
  completeLegacy (legacyForm .Pcmpeqw_mm_mmm64 [.reg .MM, .rm .MM] .Packed64_Int16)
    p reg rm none s

/-- R325: `66 0F 75 /r`. -/
def execPcmpeqw_xmm_xmmm128 (p : LegacyPrefix) (reg : BitVec 3) (rm : RMOperand) (s : State) :
    Host.Outcome State Fault Refusal :=
  completeLegacy (legacyForm .Pcmpeqw_xmm_xmmm128 [.reg .XMM, .rm .XMM] .Packed128_Int16)
    p reg rm none s

/-- R326: `NP 0F 76 /r`. -/
def execPcmpeqd_mm_mmm64 (p : LegacyPrefix) (reg : BitVec 3) (rm : RMOperand) (s : State) :
    Host.Outcome State Fault Refusal :=
  completeLegacy (legacyForm .Pcmpeqd_mm_mmm64 [.reg .MM, .rm .MM] .Packed64_Int32)
    p reg rm none s

/-- R327: `66 0F 76 /r`. -/
def execPcmpeqd_xmm_xmmm128 (p : LegacyPrefix) (reg : BitVec 3) (rm : RMOperand) (s : State) :
    Host.Outcome State Fault Refusal :=
  completeLegacy (legacyForm .Pcmpeqd_xmm_xmmm128 [.reg .XMM, .rm .XMM] .Packed128_Int32)
    p reg rm none s

/-- R328: `NP 0F 77`. -/
def execEmms (p : LegacyPrefix) (s : State) : Host.Outcome State Fault Refusal :=
  completeLegacy (legacyForm .Emms [] .Unknown)
    p 0 (.reg 0) none s

end Sys2Proof.Machine
end

