-- ==== Sys2Proof/Machine/Vex.lean ====
section
/-! DEFINITION. The meanings of the VEX instructions, map 0F opcodes 70 to 77
(spec/46_vex_0f70_0f77.md R340 to R373): each is the record its rule gives, written from the rule's
pseudocode, over the shared work `complete`. -/

namespace Sys2Proof.Machine

open Sys2Proof

/-- R340: `VEX.128.66.0F.WIG 70 /r ib`. -/
def execVEX_Vpshufd_xmm_xmmm128_imm8 (p : VexPrefix) (reg : BitVec 3) (rm : RMOperand) (ib : Byte) (s : State) :
    Host.Outcome State Fault Refusal :=
  completeVex (vexForm .VEX_Vpshufd_xmm_xmmm128_imm8 128 [.reg .XMM, .rm .XMM, .imm8] .Packed128_Int32)
    .P66 p reg rm (some ib) s

/-- R341: `VEX.256.66.0F.WIG 70 /r ib`. -/
def execVEX_Vpshufd_ymm_ymmm256_imm8 (p : VexPrefix) (reg : BitVec 3) (rm : RMOperand) (ib : Byte) (s : State) :
    Host.Outcome State Fault Refusal :=
  completeVex (vexForm .VEX_Vpshufd_ymm_ymmm256_imm8 256 [.reg .YMM, .rm .YMM, .imm8] .Packed256_Int32)
    .P66 p reg rm (some ib) s

/-- R342: `VEX.128.F3.0F.WIG 70 /r ib`. -/
def execVEX_Vpshufhw_xmm_xmmm128_imm8 (p : VexPrefix) (reg : BitVec 3) (rm : RMOperand) (ib : Byte) (s : State) :
    Host.Outcome State Fault Refusal :=
  completeVex (vexForm .VEX_Vpshufhw_xmm_xmmm128_imm8 128 [.reg .XMM, .rm .XMM, .imm8] .Packed128_Int16)
    .PF3 p reg rm (some ib) s

/-- R343: `VEX.256.F3.0F.WIG 70 /r ib`. -/
def execVEX_Vpshufhw_ymm_ymmm256_imm8 (p : VexPrefix) (reg : BitVec 3) (rm : RMOperand) (ib : Byte) (s : State) :
    Host.Outcome State Fault Refusal :=
  completeVex (vexForm .VEX_Vpshufhw_ymm_ymmm256_imm8 256 [.reg .YMM, .rm .YMM, .imm8] .Packed256_Int16)
    .PF3 p reg rm (some ib) s

/-- R344: `VEX.128.F2.0F.WIG 70 /r ib`. -/
def execVEX_Vpshuflw_xmm_xmmm128_imm8 (p : VexPrefix) (reg : BitVec 3) (rm : RMOperand) (ib : Byte) (s : State) :
    Host.Outcome State Fault Refusal :=
  completeVex (vexForm .VEX_Vpshuflw_xmm_xmmm128_imm8 128 [.reg .XMM, .rm .XMM, .imm8] .Packed128_Int16)
    .PF2 p reg rm (some ib) s

/-- R345: `VEX.256.F2.0F.WIG 70 /r ib`. -/
def execVEX_Vpshuflw_ymm_ymmm256_imm8 (p : VexPrefix) (reg : BitVec 3) (rm : RMOperand) (ib : Byte) (s : State) :
    Host.Outcome State Fault Refusal :=
  completeVex (vexForm .VEX_Vpshuflw_ymm_ymmm256_imm8 256 [.reg .YMM, .rm .YMM, .imm8] .Packed256_Int16)
    .PF2 p reg rm (some ib) s

/-- R346: `VEX.128.66.0F.WIG 71 /2 ib`. -/
def execVEX_Vpsrlw_xmm_xmm_imm8 (p : VexPrefix) (rm : BitVec 3) (ib : Byte) (s : State) :
    Host.Outcome State Fault Refusal :=
  completeVex (vexForm .VEX_Vpsrlw_xmm_xmm_imm8 128 [.vvvv .XMM, .rm .XMM, .imm8] .Unknown)
    .P66 p 0 (.reg rm) (some ib) s

/-- R347: `VEX.256.66.0F.WIG 71 /2 ib`. -/
def execVEX_Vpsrlw_ymm_ymm_imm8 (p : VexPrefix) (rm : BitVec 3) (ib : Byte) (s : State) :
    Host.Outcome State Fault Refusal :=
  completeVex (vexForm .VEX_Vpsrlw_ymm_ymm_imm8 256 [.vvvv .YMM, .rm .YMM, .imm8] .Unknown)
    .P66 p 0 (.reg rm) (some ib) s

/-- R348: `VEX.128.66.0F.WIG 71 /4 ib`. -/
def execVEX_Vpsraw_xmm_xmm_imm8 (p : VexPrefix) (rm : BitVec 3) (ib : Byte) (s : State) :
    Host.Outcome State Fault Refusal :=
  completeVex (vexForm .VEX_Vpsraw_xmm_xmm_imm8 128 [.vvvv .XMM, .rm .XMM, .imm8] .Unknown)
    .P66 p 0 (.reg rm) (some ib) s

/-- R349: `VEX.256.66.0F.WIG 71 /4 ib`. -/
def execVEX_Vpsraw_ymm_ymm_imm8 (p : VexPrefix) (rm : BitVec 3) (ib : Byte) (s : State) :
    Host.Outcome State Fault Refusal :=
  completeVex (vexForm .VEX_Vpsraw_ymm_ymm_imm8 256 [.vvvv .YMM, .rm .YMM, .imm8] .Unknown)
    .P66 p 0 (.reg rm) (some ib) s

/-- R350: `VEX.128.66.0F.WIG 71 /6 ib`. -/
def execVEX_Vpsllw_xmm_xmm_imm8 (p : VexPrefix) (rm : BitVec 3) (ib : Byte) (s : State) :
    Host.Outcome State Fault Refusal :=
  completeVex (vexForm .VEX_Vpsllw_xmm_xmm_imm8 128 [.vvvv .XMM, .rm .XMM, .imm8] .Unknown)
    .P66 p 0 (.reg rm) (some ib) s

/-- R351: `VEX.256.66.0F.WIG 71 /6 ib`. -/
def execVEX_Vpsllw_ymm_ymm_imm8 (p : VexPrefix) (rm : BitVec 3) (ib : Byte) (s : State) :
    Host.Outcome State Fault Refusal :=
  completeVex (vexForm .VEX_Vpsllw_ymm_ymm_imm8 256 [.vvvv .YMM, .rm .YMM, .imm8] .Unknown)
    .P66 p 0 (.reg rm) (some ib) s

/-- R352: `VEX.128.66.0F.WIG 72 /2 ib`. -/
def execVEX_Vpsrld_xmm_xmm_imm8 (p : VexPrefix) (rm : BitVec 3) (ib : Byte) (s : State) :
    Host.Outcome State Fault Refusal :=
  completeVex (vexForm .VEX_Vpsrld_xmm_xmm_imm8 128 [.vvvv .XMM, .rm .XMM, .imm8] .Unknown)
    .P66 p 0 (.reg rm) (some ib) s

/-- R353: `VEX.256.66.0F.WIG 72 /2 ib`. -/
def execVEX_Vpsrld_ymm_ymm_imm8 (p : VexPrefix) (rm : BitVec 3) (ib : Byte) (s : State) :
    Host.Outcome State Fault Refusal :=
  completeVex (vexForm .VEX_Vpsrld_ymm_ymm_imm8 256 [.vvvv .YMM, .rm .YMM, .imm8] .Unknown)
    .P66 p 0 (.reg rm) (some ib) s

/-- R354: `VEX.128.66.0F.WIG 72 /4 ib`. -/
def execVEX_Vpsrad_xmm_xmm_imm8 (p : VexPrefix) (rm : BitVec 3) (ib : Byte) (s : State) :
    Host.Outcome State Fault Refusal :=
  completeVex (vexForm .VEX_Vpsrad_xmm_xmm_imm8 128 [.vvvv .XMM, .rm .XMM, .imm8] .Unknown)
    .P66 p 0 (.reg rm) (some ib) s

/-- R355: `VEX.256.66.0F.WIG 72 /4 ib`. -/
def execVEX_Vpsrad_ymm_ymm_imm8 (p : VexPrefix) (rm : BitVec 3) (ib : Byte) (s : State) :
    Host.Outcome State Fault Refusal :=
  completeVex (vexForm .VEX_Vpsrad_ymm_ymm_imm8 256 [.vvvv .YMM, .rm .YMM, .imm8] .Unknown)
    .P66 p 0 (.reg rm) (some ib) s

/-- R356: `VEX.128.66.0F.WIG 72 /6 ib`. -/
def execVEX_Vpslld_xmm_xmm_imm8 (p : VexPrefix) (rm : BitVec 3) (ib : Byte) (s : State) :
    Host.Outcome State Fault Refusal :=
  completeVex (vexForm .VEX_Vpslld_xmm_xmm_imm8 128 [.vvvv .XMM, .rm .XMM, .imm8] .Unknown)
    .P66 p 0 (.reg rm) (some ib) s

/-- R357: `VEX.256.66.0F.WIG 72 /6 ib`. -/
def execVEX_Vpslld_ymm_ymm_imm8 (p : VexPrefix) (rm : BitVec 3) (ib : Byte) (s : State) :
    Host.Outcome State Fault Refusal :=
  completeVex (vexForm .VEX_Vpslld_ymm_ymm_imm8 256 [.vvvv .YMM, .rm .YMM, .imm8] .Unknown)
    .P66 p 0 (.reg rm) (some ib) s

/-- R358: `VEX.128.66.0F.WIG 73 /2 ib`. -/
def execVEX_Vpsrlq_xmm_xmm_imm8 (p : VexPrefix) (rm : BitVec 3) (ib : Byte) (s : State) :
    Host.Outcome State Fault Refusal :=
  completeVex (vexForm .VEX_Vpsrlq_xmm_xmm_imm8 128 [.vvvv .XMM, .rm .XMM, .imm8] .Unknown)
    .P66 p 0 (.reg rm) (some ib) s

/-- R359: `VEX.256.66.0F.WIG 73 /2 ib`. -/
def execVEX_Vpsrlq_ymm_ymm_imm8 (p : VexPrefix) (rm : BitVec 3) (ib : Byte) (s : State) :
    Host.Outcome State Fault Refusal :=
  completeVex (vexForm .VEX_Vpsrlq_ymm_ymm_imm8 256 [.vvvv .YMM, .rm .YMM, .imm8] .Unknown)
    .P66 p 0 (.reg rm) (some ib) s

/-- R360: `VEX.128.66.0F.WIG 73 /3 ib`. -/
def execVEX_Vpsrldq_xmm_xmm_imm8 (p : VexPrefix) (rm : BitVec 3) (ib : Byte) (s : State) :
    Host.Outcome State Fault Refusal :=
  completeVex (vexForm .VEX_Vpsrldq_xmm_xmm_imm8 128 [.vvvv .XMM, .rm .XMM, .imm8] .Unknown)
    .P66 p 0 (.reg rm) (some ib) s

/-- R361: `VEX.256.66.0F.WIG 73 /3 ib`. -/
def execVEX_Vpsrldq_ymm_ymm_imm8 (p : VexPrefix) (rm : BitVec 3) (ib : Byte) (s : State) :
    Host.Outcome State Fault Refusal :=
  completeVex (vexForm .VEX_Vpsrldq_ymm_ymm_imm8 256 [.vvvv .YMM, .rm .YMM, .imm8] .Unknown)
    .P66 p 0 (.reg rm) (some ib) s

/-- R362: `VEX.128.66.0F.WIG 73 /6 ib`. -/
def execVEX_Vpsllq_xmm_xmm_imm8 (p : VexPrefix) (rm : BitVec 3) (ib : Byte) (s : State) :
    Host.Outcome State Fault Refusal :=
  completeVex (vexForm .VEX_Vpsllq_xmm_xmm_imm8 128 [.vvvv .XMM, .rm .XMM, .imm8] .Unknown)
    .P66 p 0 (.reg rm) (some ib) s

/-- R363: `VEX.256.66.0F.WIG 73 /6 ib`. -/
def execVEX_Vpsllq_ymm_ymm_imm8 (p : VexPrefix) (rm : BitVec 3) (ib : Byte) (s : State) :
    Host.Outcome State Fault Refusal :=
  completeVex (vexForm .VEX_Vpsllq_ymm_ymm_imm8 256 [.vvvv .YMM, .rm .YMM, .imm8] .Unknown)
    .P66 p 0 (.reg rm) (some ib) s

/-- R364: `VEX.128.66.0F.WIG 73 /7 ib`. -/
def execVEX_Vpslldq_xmm_xmm_imm8 (p : VexPrefix) (rm : BitVec 3) (ib : Byte) (s : State) :
    Host.Outcome State Fault Refusal :=
  completeVex (vexForm .VEX_Vpslldq_xmm_xmm_imm8 128 [.vvvv .XMM, .rm .XMM, .imm8] .Unknown)
    .P66 p 0 (.reg rm) (some ib) s

/-- R365: `VEX.256.66.0F.WIG 73 /7 ib`. -/
def execVEX_Vpslldq_ymm_ymm_imm8 (p : VexPrefix) (rm : BitVec 3) (ib : Byte) (s : State) :
    Host.Outcome State Fault Refusal :=
  completeVex (vexForm .VEX_Vpslldq_ymm_ymm_imm8 256 [.vvvv .YMM, .rm .YMM, .imm8] .Unknown)
    .P66 p 0 (.reg rm) (some ib) s

/-- R366: `VEX.128.66.0F.WIG 74 /r`. -/
def execVEX_Vpcmpeqb_xmm_xmm_xmmm128 (p : VexPrefix) (reg : BitVec 3) (rm : RMOperand) (s : State) :
    Host.Outcome State Fault Refusal :=
  completeVex (vexForm .VEX_Vpcmpeqb_xmm_xmm_xmmm128 128 [.reg .XMM, .vvvv .XMM, .rm .XMM] .Packed128_Int8)
    .P66 p reg rm none s

/-- R367: `VEX.256.66.0F.WIG 74 /r`. -/
def execVEX_Vpcmpeqb_ymm_ymm_ymmm256 (p : VexPrefix) (reg : BitVec 3) (rm : RMOperand) (s : State) :
    Host.Outcome State Fault Refusal :=
  completeVex (vexForm .VEX_Vpcmpeqb_ymm_ymm_ymmm256 256 [.reg .YMM, .vvvv .YMM, .rm .YMM] .Packed256_Int8)
    .P66 p reg rm none s

/-- R368: `VEX.128.66.0F.WIG 75 /r`. -/
def execVEX_Vpcmpeqw_xmm_xmm_xmmm128 (p : VexPrefix) (reg : BitVec 3) (rm : RMOperand) (s : State) :
    Host.Outcome State Fault Refusal :=
  completeVex (vexForm .VEX_Vpcmpeqw_xmm_xmm_xmmm128 128 [.reg .XMM, .vvvv .XMM, .rm .XMM] .Packed128_Int16)
    .P66 p reg rm none s

/-- R369: `VEX.256.66.0F.WIG 75 /r`. -/
def execVEX_Vpcmpeqw_ymm_ymm_ymmm256 (p : VexPrefix) (reg : BitVec 3) (rm : RMOperand) (s : State) :
    Host.Outcome State Fault Refusal :=
  completeVex (vexForm .VEX_Vpcmpeqw_ymm_ymm_ymmm256 256 [.reg .YMM, .vvvv .YMM, .rm .YMM] .Packed256_Int16)
    .P66 p reg rm none s

/-- R370: `VEX.128.66.0F.WIG 76 /r`. -/
def execVEX_Vpcmpeqd_xmm_xmm_xmmm128 (p : VexPrefix) (reg : BitVec 3) (rm : RMOperand) (s : State) :
    Host.Outcome State Fault Refusal :=
  completeVex (vexForm .VEX_Vpcmpeqd_xmm_xmm_xmmm128 128 [.reg .XMM, .vvvv .XMM, .rm .XMM] .Packed128_Int32)
    .P66 p reg rm none s

/-- R371: `VEX.256.66.0F.WIG 76 /r`. -/
def execVEX_Vpcmpeqd_ymm_ymm_ymmm256 (p : VexPrefix) (reg : BitVec 3) (rm : RMOperand) (s : State) :
    Host.Outcome State Fault Refusal :=
  completeVex (vexForm .VEX_Vpcmpeqd_ymm_ymm_ymmm256 256 [.reg .YMM, .vvvv .YMM, .rm .YMM] .Packed256_Int32)
    .P66 p reg rm none s

/-- R372: `VEX.L0.NP.0F.WIG 77`. -/
def execVEX_Vzeroupper (p : VexPrefix) (s : State) : Host.Outcome State Fault Refusal :=
  completeVex (vexForm .VEX_Vzeroupper 128 [] .Unknown)
    .NP p 0 (.reg 0) none s

/-- R373: `VEX.L1.NP.0F.WIG 77`. -/
def execVEX_Vzeroall (p : VexPrefix) (s : State) : Host.Outcome State Fault Refusal :=
  completeVex (vexForm .VEX_Vzeroall 256 [] .Unknown)
    .NP p 0 (.reg 0) none s

end Sys2Proof.Machine
end

