-- ==== Sys2Proof/Machine/Dispatch.lean ====
section
/-! DEFINITION. One arm per constructor of `Instr`, each one call of its meaning. -/

namespace Sys2Proof.Machine

open Sys2Proof

/-- The meaning of an instruction: what the block does once the operand fields are decoded. -/
def exec (i : Instr) (s : State) : Host.Outcome State Fault Refusal :=
  match i with
  | .Pshufw_mm_mmm64_imm8 p reg rm ib => Sys2Proof.Machine.execPshufw_mm_mmm64_imm8 p reg rm ib s
  | .Pshufd_xmm_xmmm128_imm8 p reg rm ib => Sys2Proof.Machine.execPshufd_xmm_xmmm128_imm8 p reg rm ib s
  | .Pshufhw_xmm_xmmm128_imm8 p reg rm ib => Sys2Proof.Machine.execPshufhw_xmm_xmmm128_imm8 p reg rm ib s
  | .Pshuflw_xmm_xmmm128_imm8 p reg rm ib => Sys2Proof.Machine.execPshuflw_xmm_xmmm128_imm8 p reg rm ib s
  | .Psrlw_mm_imm8 p rm ib => Sys2Proof.Machine.execPsrlw_mm_imm8 p rm ib s
  | .Psrlw_xmm_imm8 p rm ib => Sys2Proof.Machine.execPsrlw_xmm_imm8 p rm ib s
  | .Psraw_mm_imm8 p rm ib => Sys2Proof.Machine.execPsraw_mm_imm8 p rm ib s
  | .Psraw_xmm_imm8 p rm ib => Sys2Proof.Machine.execPsraw_xmm_imm8 p rm ib s
  | .Psllw_mm_imm8 p rm ib => Sys2Proof.Machine.execPsllw_mm_imm8 p rm ib s
  | .Psllw_xmm_imm8 p rm ib => Sys2Proof.Machine.execPsllw_xmm_imm8 p rm ib s
  | .Psrld_mm_imm8 p rm ib => Sys2Proof.Machine.execPsrld_mm_imm8 p rm ib s
  | .Psrld_xmm_imm8 p rm ib => Sys2Proof.Machine.execPsrld_xmm_imm8 p rm ib s
  | .Psrad_mm_imm8 p rm ib => Sys2Proof.Machine.execPsrad_mm_imm8 p rm ib s
  | .Psrad_xmm_imm8 p rm ib => Sys2Proof.Machine.execPsrad_xmm_imm8 p rm ib s
  | .Pslld_mm_imm8 p rm ib => Sys2Proof.Machine.execPslld_mm_imm8 p rm ib s
  | .Pslld_xmm_imm8 p rm ib => Sys2Proof.Machine.execPslld_xmm_imm8 p rm ib s
  | .Psrlq_mm_imm8 p rm ib => Sys2Proof.Machine.execPsrlq_mm_imm8 p rm ib s
  | .Psrlq_xmm_imm8 p rm ib => Sys2Proof.Machine.execPsrlq_xmm_imm8 p rm ib s
  | .Psrldq_xmm_imm8 p rm ib => Sys2Proof.Machine.execPsrldq_xmm_imm8 p rm ib s
  | .Psllq_mm_imm8 p rm ib => Sys2Proof.Machine.execPsllq_mm_imm8 p rm ib s
  | .Psllq_xmm_imm8 p rm ib => Sys2Proof.Machine.execPsllq_xmm_imm8 p rm ib s
  | .Pslldq_xmm_imm8 p rm ib => Sys2Proof.Machine.execPslldq_xmm_imm8 p rm ib s
  | .Pcmpeqb_mm_mmm64 p reg rm => Sys2Proof.Machine.execPcmpeqb_mm_mmm64 p reg rm s
  | .Pcmpeqb_xmm_xmmm128 p reg rm => Sys2Proof.Machine.execPcmpeqb_xmm_xmmm128 p reg rm s
  | .Pcmpeqw_mm_mmm64 p reg rm => Sys2Proof.Machine.execPcmpeqw_mm_mmm64 p reg rm s
  | .Pcmpeqw_xmm_xmmm128 p reg rm => Sys2Proof.Machine.execPcmpeqw_xmm_xmmm128 p reg rm s
  | .Pcmpeqd_mm_mmm64 p reg rm => Sys2Proof.Machine.execPcmpeqd_mm_mmm64 p reg rm s
  | .Pcmpeqd_xmm_xmmm128 p reg rm => Sys2Proof.Machine.execPcmpeqd_xmm_xmmm128 p reg rm s
  | .Emms p => Sys2Proof.Machine.execEmms p s
  | .VEX_Vpshufd_xmm_xmmm128_imm8 p reg rm ib => Sys2Proof.Machine.execVEX_Vpshufd_xmm_xmmm128_imm8 p reg rm ib s
  | .VEX_Vpshufd_ymm_ymmm256_imm8 p reg rm ib => Sys2Proof.Machine.execVEX_Vpshufd_ymm_ymmm256_imm8 p reg rm ib s
  | .VEX_Vpshufhw_xmm_xmmm128_imm8 p reg rm ib => Sys2Proof.Machine.execVEX_Vpshufhw_xmm_xmmm128_imm8 p reg rm ib s
  | .VEX_Vpshufhw_ymm_ymmm256_imm8 p reg rm ib => Sys2Proof.Machine.execVEX_Vpshufhw_ymm_ymmm256_imm8 p reg rm ib s
  | .VEX_Vpshuflw_xmm_xmmm128_imm8 p reg rm ib => Sys2Proof.Machine.execVEX_Vpshuflw_xmm_xmmm128_imm8 p reg rm ib s
  | .VEX_Vpshuflw_ymm_ymmm256_imm8 p reg rm ib => Sys2Proof.Machine.execVEX_Vpshuflw_ymm_ymmm256_imm8 p reg rm ib s
  | .VEX_Vpsrlw_xmm_xmm_imm8 p rm ib => Sys2Proof.Machine.execVEX_Vpsrlw_xmm_xmm_imm8 p rm ib s
  | .VEX_Vpsrlw_ymm_ymm_imm8 p rm ib => Sys2Proof.Machine.execVEX_Vpsrlw_ymm_ymm_imm8 p rm ib s
  | .VEX_Vpsraw_xmm_xmm_imm8 p rm ib => Sys2Proof.Machine.execVEX_Vpsraw_xmm_xmm_imm8 p rm ib s
  | .VEX_Vpsraw_ymm_ymm_imm8 p rm ib => Sys2Proof.Machine.execVEX_Vpsraw_ymm_ymm_imm8 p rm ib s
  | .VEX_Vpsllw_xmm_xmm_imm8 p rm ib => Sys2Proof.Machine.execVEX_Vpsllw_xmm_xmm_imm8 p rm ib s
  | .VEX_Vpsllw_ymm_ymm_imm8 p rm ib => Sys2Proof.Machine.execVEX_Vpsllw_ymm_ymm_imm8 p rm ib s
  | .VEX_Vpsrld_xmm_xmm_imm8 p rm ib => Sys2Proof.Machine.execVEX_Vpsrld_xmm_xmm_imm8 p rm ib s
  | .VEX_Vpsrld_ymm_ymm_imm8 p rm ib => Sys2Proof.Machine.execVEX_Vpsrld_ymm_ymm_imm8 p rm ib s
  | .VEX_Vpsrad_xmm_xmm_imm8 p rm ib => Sys2Proof.Machine.execVEX_Vpsrad_xmm_xmm_imm8 p rm ib s
  | .VEX_Vpsrad_ymm_ymm_imm8 p rm ib => Sys2Proof.Machine.execVEX_Vpsrad_ymm_ymm_imm8 p rm ib s
  | .VEX_Vpslld_xmm_xmm_imm8 p rm ib => Sys2Proof.Machine.execVEX_Vpslld_xmm_xmm_imm8 p rm ib s
  | .VEX_Vpslld_ymm_ymm_imm8 p rm ib => Sys2Proof.Machine.execVEX_Vpslld_ymm_ymm_imm8 p rm ib s
  | .VEX_Vpsrlq_xmm_xmm_imm8 p rm ib => Sys2Proof.Machine.execVEX_Vpsrlq_xmm_xmm_imm8 p rm ib s
  | .VEX_Vpsrlq_ymm_ymm_imm8 p rm ib => Sys2Proof.Machine.execVEX_Vpsrlq_ymm_ymm_imm8 p rm ib s
  | .VEX_Vpsrldq_xmm_xmm_imm8 p rm ib => Sys2Proof.Machine.execVEX_Vpsrldq_xmm_xmm_imm8 p rm ib s
  | .VEX_Vpsrldq_ymm_ymm_imm8 p rm ib => Sys2Proof.Machine.execVEX_Vpsrldq_ymm_ymm_imm8 p rm ib s
  | .VEX_Vpsllq_xmm_xmm_imm8 p rm ib => Sys2Proof.Machine.execVEX_Vpsllq_xmm_xmm_imm8 p rm ib s
  | .VEX_Vpsllq_ymm_ymm_imm8 p rm ib => Sys2Proof.Machine.execVEX_Vpsllq_ymm_ymm_imm8 p rm ib s
  | .VEX_Vpslldq_xmm_xmm_imm8 p rm ib => Sys2Proof.Machine.execVEX_Vpslldq_xmm_xmm_imm8 p rm ib s
  | .VEX_Vpslldq_ymm_ymm_imm8 p rm ib => Sys2Proof.Machine.execVEX_Vpslldq_ymm_ymm_imm8 p rm ib s
  | .VEX_Vpcmpeqb_xmm_xmm_xmmm128 p reg rm => Sys2Proof.Machine.execVEX_Vpcmpeqb_xmm_xmm_xmmm128 p reg rm s
  | .VEX_Vpcmpeqb_ymm_ymm_ymmm256 p reg rm => Sys2Proof.Machine.execVEX_Vpcmpeqb_ymm_ymm_ymmm256 p reg rm s
  | .VEX_Vpcmpeqw_xmm_xmm_xmmm128 p reg rm => Sys2Proof.Machine.execVEX_Vpcmpeqw_xmm_xmm_xmmm128 p reg rm s
  | .VEX_Vpcmpeqw_ymm_ymm_ymmm256 p reg rm => Sys2Proof.Machine.execVEX_Vpcmpeqw_ymm_ymm_ymmm256 p reg rm s
  | .VEX_Vpcmpeqd_xmm_xmm_xmmm128 p reg rm => Sys2Proof.Machine.execVEX_Vpcmpeqd_xmm_xmm_xmmm128 p reg rm s
  | .VEX_Vpcmpeqd_ymm_ymm_ymmm256 p reg rm => Sys2Proof.Machine.execVEX_Vpcmpeqd_ymm_ymm_ymmm256 p reg rm s
  | .VEX_Vzeroupper p => Sys2Proof.Machine.execVEX_Vzeroupper p s
  | .VEX_Vzeroall p => Sys2Proof.Machine.execVEX_Vzeroall p s
  | .EVEX_Vpshufd_xmm_k1z_xmmm128b32_imm8 p reg rm ib => Sys2Proof.Machine.execEVEX_Vpshufd_xmm_k1z_xmmm128b32_imm8 p reg rm ib s
  | .EVEX_Vpshufd_ymm_k1z_ymmm256b32_imm8 p reg rm ib => Sys2Proof.Machine.execEVEX_Vpshufd_ymm_k1z_ymmm256b32_imm8 p reg rm ib s
  | .EVEX_Vpshufd_zmm_k1z_zmmm512b32_imm8 p reg rm ib => Sys2Proof.Machine.execEVEX_Vpshufd_zmm_k1z_zmmm512b32_imm8 p reg rm ib s
  | .EVEX_Vpshufhw_xmm_k1z_xmmm128_imm8 p reg rm ib => Sys2Proof.Machine.execEVEX_Vpshufhw_xmm_k1z_xmmm128_imm8 p reg rm ib s
  | .EVEX_Vpshufhw_ymm_k1z_ymmm256_imm8 p reg rm ib => Sys2Proof.Machine.execEVEX_Vpshufhw_ymm_k1z_ymmm256_imm8 p reg rm ib s
  | .EVEX_Vpshufhw_zmm_k1z_zmmm512_imm8 p reg rm ib => Sys2Proof.Machine.execEVEX_Vpshufhw_zmm_k1z_zmmm512_imm8 p reg rm ib s
  | .EVEX_Vpshuflw_xmm_k1z_xmmm128_imm8 p reg rm ib => Sys2Proof.Machine.execEVEX_Vpshuflw_xmm_k1z_xmmm128_imm8 p reg rm ib s
  | .EVEX_Vpshuflw_ymm_k1z_ymmm256_imm8 p reg rm ib => Sys2Proof.Machine.execEVEX_Vpshuflw_ymm_k1z_ymmm256_imm8 p reg rm ib s
  | .EVEX_Vpshuflw_zmm_k1z_zmmm512_imm8 p reg rm ib => Sys2Proof.Machine.execEVEX_Vpshuflw_zmm_k1z_zmmm512_imm8 p reg rm ib s
  | .EVEX_Vpsrlw_xmm_k1z_xmmm128_imm8 p rm ib => Sys2Proof.Machine.execEVEX_Vpsrlw_xmm_k1z_xmmm128_imm8 p rm ib s
  | .EVEX_Vpsrlw_ymm_k1z_ymmm256_imm8 p rm ib => Sys2Proof.Machine.execEVEX_Vpsrlw_ymm_k1z_ymmm256_imm8 p rm ib s
  | .EVEX_Vpsrlw_zmm_k1z_zmmm512_imm8 p rm ib => Sys2Proof.Machine.execEVEX_Vpsrlw_zmm_k1z_zmmm512_imm8 p rm ib s
  | .EVEX_Vpsraw_xmm_k1z_xmmm128_imm8 p rm ib => Sys2Proof.Machine.execEVEX_Vpsraw_xmm_k1z_xmmm128_imm8 p rm ib s
  | .EVEX_Vpsraw_ymm_k1z_ymmm256_imm8 p rm ib => Sys2Proof.Machine.execEVEX_Vpsraw_ymm_k1z_ymmm256_imm8 p rm ib s
  | .EVEX_Vpsraw_zmm_k1z_zmmm512_imm8 p rm ib => Sys2Proof.Machine.execEVEX_Vpsraw_zmm_k1z_zmmm512_imm8 p rm ib s
  | .EVEX_Vpsllw_xmm_k1z_xmmm128_imm8 p rm ib => Sys2Proof.Machine.execEVEX_Vpsllw_xmm_k1z_xmmm128_imm8 p rm ib s
  | .EVEX_Vpsllw_ymm_k1z_ymmm256_imm8 p rm ib => Sys2Proof.Machine.execEVEX_Vpsllw_ymm_k1z_ymmm256_imm8 p rm ib s
  | .EVEX_Vpsllw_zmm_k1z_zmmm512_imm8 p rm ib => Sys2Proof.Machine.execEVEX_Vpsllw_zmm_k1z_zmmm512_imm8 p rm ib s
  | .EVEX_Vprord_xmm_k1z_xmmm128b32_imm8 p rm ib => Sys2Proof.Machine.execEVEX_Vprord_xmm_k1z_xmmm128b32_imm8 p rm ib s
  | .EVEX_Vprord_ymm_k1z_ymmm256b32_imm8 p rm ib => Sys2Proof.Machine.execEVEX_Vprord_ymm_k1z_ymmm256b32_imm8 p rm ib s
  | .EVEX_Vprord_zmm_k1z_zmmm512b32_imm8 p rm ib => Sys2Proof.Machine.execEVEX_Vprord_zmm_k1z_zmmm512b32_imm8 p rm ib s
  | .EVEX_Vprorq_xmm_k1z_xmmm128b64_imm8 p rm ib => Sys2Proof.Machine.execEVEX_Vprorq_xmm_k1z_xmmm128b64_imm8 p rm ib s
  | .EVEX_Vprorq_ymm_k1z_ymmm256b64_imm8 p rm ib => Sys2Proof.Machine.execEVEX_Vprorq_ymm_k1z_ymmm256b64_imm8 p rm ib s
  | .EVEX_Vprorq_zmm_k1z_zmmm512b64_imm8 p rm ib => Sys2Proof.Machine.execEVEX_Vprorq_zmm_k1z_zmmm512b64_imm8 p rm ib s
  | .EVEX_Vprold_xmm_k1z_xmmm128b32_imm8 p rm ib => Sys2Proof.Machine.execEVEX_Vprold_xmm_k1z_xmmm128b32_imm8 p rm ib s
  | .EVEX_Vprold_ymm_k1z_ymmm256b32_imm8 p rm ib => Sys2Proof.Machine.execEVEX_Vprold_ymm_k1z_ymmm256b32_imm8 p rm ib s
  | .EVEX_Vprold_zmm_k1z_zmmm512b32_imm8 p rm ib => Sys2Proof.Machine.execEVEX_Vprold_zmm_k1z_zmmm512b32_imm8 p rm ib s
  | .EVEX_Vprolq_xmm_k1z_xmmm128b64_imm8 p rm ib => Sys2Proof.Machine.execEVEX_Vprolq_xmm_k1z_xmmm128b64_imm8 p rm ib s
  | .EVEX_Vprolq_ymm_k1z_ymmm256b64_imm8 p rm ib => Sys2Proof.Machine.execEVEX_Vprolq_ymm_k1z_ymmm256b64_imm8 p rm ib s
  | .EVEX_Vprolq_zmm_k1z_zmmm512b64_imm8 p rm ib => Sys2Proof.Machine.execEVEX_Vprolq_zmm_k1z_zmmm512b64_imm8 p rm ib s
  | .EVEX_Vpsrld_xmm_k1z_xmmm128b32_imm8 p rm ib => Sys2Proof.Machine.execEVEX_Vpsrld_xmm_k1z_xmmm128b32_imm8 p rm ib s
  | .EVEX_Vpsrld_ymm_k1z_ymmm256b32_imm8 p rm ib => Sys2Proof.Machine.execEVEX_Vpsrld_ymm_k1z_ymmm256b32_imm8 p rm ib s
  | .EVEX_Vpsrld_zmm_k1z_zmmm512b32_imm8 p rm ib => Sys2Proof.Machine.execEVEX_Vpsrld_zmm_k1z_zmmm512b32_imm8 p rm ib s
  | .EVEX_Vpsrad_xmm_k1z_xmmm128b32_imm8 p rm ib => Sys2Proof.Machine.execEVEX_Vpsrad_xmm_k1z_xmmm128b32_imm8 p rm ib s
  | .EVEX_Vpsrad_ymm_k1z_ymmm256b32_imm8 p rm ib => Sys2Proof.Machine.execEVEX_Vpsrad_ymm_k1z_ymmm256b32_imm8 p rm ib s
  | .EVEX_Vpsrad_zmm_k1z_zmmm512b32_imm8 p rm ib => Sys2Proof.Machine.execEVEX_Vpsrad_zmm_k1z_zmmm512b32_imm8 p rm ib s
  | .EVEX_Vpsraq_xmm_k1z_xmmm128b64_imm8 p rm ib => Sys2Proof.Machine.execEVEX_Vpsraq_xmm_k1z_xmmm128b64_imm8 p rm ib s
  | .EVEX_Vpsraq_ymm_k1z_ymmm256b64_imm8 p rm ib => Sys2Proof.Machine.execEVEX_Vpsraq_ymm_k1z_ymmm256b64_imm8 p rm ib s
  | .EVEX_Vpsraq_zmm_k1z_zmmm512b64_imm8 p rm ib => Sys2Proof.Machine.execEVEX_Vpsraq_zmm_k1z_zmmm512b64_imm8 p rm ib s
  | .EVEX_Vpslld_xmm_k1z_xmmm128b32_imm8 p rm ib => Sys2Proof.Machine.execEVEX_Vpslld_xmm_k1z_xmmm128b32_imm8 p rm ib s
  | .EVEX_Vpslld_ymm_k1z_ymmm256b32_imm8 p rm ib => Sys2Proof.Machine.execEVEX_Vpslld_ymm_k1z_ymmm256b32_imm8 p rm ib s
  | .EVEX_Vpslld_zmm_k1z_zmmm512b32_imm8 p rm ib => Sys2Proof.Machine.execEVEX_Vpslld_zmm_k1z_zmmm512b32_imm8 p rm ib s
  | .EVEX_Vpsrlq_xmm_k1z_xmmm128b64_imm8 p rm ib => Sys2Proof.Machine.execEVEX_Vpsrlq_xmm_k1z_xmmm128b64_imm8 p rm ib s
  | .EVEX_Vpsrlq_ymm_k1z_ymmm256b64_imm8 p rm ib => Sys2Proof.Machine.execEVEX_Vpsrlq_ymm_k1z_ymmm256b64_imm8 p rm ib s
  | .EVEX_Vpsrlq_zmm_k1z_zmmm512b64_imm8 p rm ib => Sys2Proof.Machine.execEVEX_Vpsrlq_zmm_k1z_zmmm512b64_imm8 p rm ib s
  | .EVEX_Vpsrldq_xmm_xmmm128_imm8 p rm ib => Sys2Proof.Machine.execEVEX_Vpsrldq_xmm_xmmm128_imm8 p rm ib s
  | .EVEX_Vpsrldq_ymm_ymmm256_imm8 p rm ib => Sys2Proof.Machine.execEVEX_Vpsrldq_ymm_ymmm256_imm8 p rm ib s
  | .EVEX_Vpsrldq_zmm_zmmm512_imm8 p rm ib => Sys2Proof.Machine.execEVEX_Vpsrldq_zmm_zmmm512_imm8 p rm ib s
  | .EVEX_Vpsllq_xmm_k1z_xmmm128b64_imm8 p rm ib => Sys2Proof.Machine.execEVEX_Vpsllq_xmm_k1z_xmmm128b64_imm8 p rm ib s
  | .EVEX_Vpsllq_ymm_k1z_ymmm256b64_imm8 p rm ib => Sys2Proof.Machine.execEVEX_Vpsllq_ymm_k1z_ymmm256b64_imm8 p rm ib s
  | .EVEX_Vpsllq_zmm_k1z_zmmm512b64_imm8 p rm ib => Sys2Proof.Machine.execEVEX_Vpsllq_zmm_k1z_zmmm512b64_imm8 p rm ib s
  | .EVEX_Vpslldq_xmm_xmmm128_imm8 p rm ib => Sys2Proof.Machine.execEVEX_Vpslldq_xmm_xmmm128_imm8 p rm ib s
  | .EVEX_Vpslldq_ymm_ymmm256_imm8 p rm ib => Sys2Proof.Machine.execEVEX_Vpslldq_ymm_ymmm256_imm8 p rm ib s
  | .EVEX_Vpslldq_zmm_zmmm512_imm8 p rm ib => Sys2Proof.Machine.execEVEX_Vpslldq_zmm_zmmm512_imm8 p rm ib s
  | .EVEX_Vpcmpeqb_kr_k1_xmm_xmmm128 p reg rm => Sys2Proof.Machine.execEVEX_Vpcmpeqb_kr_k1_xmm_xmmm128 p reg rm s
  | .EVEX_Vpcmpeqb_kr_k1_ymm_ymmm256 p reg rm => Sys2Proof.Machine.execEVEX_Vpcmpeqb_kr_k1_ymm_ymmm256 p reg rm s
  | .EVEX_Vpcmpeqb_kr_k1_zmm_zmmm512 p reg rm => Sys2Proof.Machine.execEVEX_Vpcmpeqb_kr_k1_zmm_zmmm512 p reg rm s
  | .EVEX_Vpcmpeqw_kr_k1_xmm_xmmm128 p reg rm => Sys2Proof.Machine.execEVEX_Vpcmpeqw_kr_k1_xmm_xmmm128 p reg rm s
  | .EVEX_Vpcmpeqw_kr_k1_ymm_ymmm256 p reg rm => Sys2Proof.Machine.execEVEX_Vpcmpeqw_kr_k1_ymm_ymmm256 p reg rm s
  | .EVEX_Vpcmpeqw_kr_k1_zmm_zmmm512 p reg rm => Sys2Proof.Machine.execEVEX_Vpcmpeqw_kr_k1_zmm_zmmm512 p reg rm s
  | .EVEX_Vpcmpeqd_kr_k1_xmm_xmmm128b32 p reg rm => Sys2Proof.Machine.execEVEX_Vpcmpeqd_kr_k1_xmm_xmmm128b32 p reg rm s
  | .EVEX_Vpcmpeqd_kr_k1_ymm_ymmm256b32 p reg rm => Sys2Proof.Machine.execEVEX_Vpcmpeqd_kr_k1_ymm_ymmm256b32 p reg rm s
  | .EVEX_Vpcmpeqd_kr_k1_zmm_zmmm512b32 p reg rm => Sys2Proof.Machine.execEVEX_Vpcmpeqd_kr_k1_zmm_zmmm512b32 p reg rm s
  | .EVEX_Vpshldw_xmm_k1z_xmm_xmmm128_imm8 p reg rm ib => Sys2Proof.Machine.execEVEX_Vpshldw_xmm_k1z_xmm_xmmm128_imm8 p reg rm ib s
  | .EVEX_Vpshldw_ymm_k1z_ymm_ymmm256_imm8 p reg rm ib => Sys2Proof.Machine.execEVEX_Vpshldw_ymm_k1z_ymm_ymmm256_imm8 p reg rm ib s
  | .EVEX_Vpshldw_zmm_k1z_zmm_zmmm512_imm8 p reg rm ib => Sys2Proof.Machine.execEVEX_Vpshldw_zmm_k1z_zmm_zmmm512_imm8 p reg rm ib s
  | .EVEX_Vpshldd_xmm_k1z_xmm_xmmm128b32_imm8 p reg rm ib => Sys2Proof.Machine.execEVEX_Vpshldd_xmm_k1z_xmm_xmmm128b32_imm8 p reg rm ib s
  | .EVEX_Vpshldd_ymm_k1z_ymm_ymmm256b32_imm8 p reg rm ib => Sys2Proof.Machine.execEVEX_Vpshldd_ymm_k1z_ymm_ymmm256b32_imm8 p reg rm ib s
  | .EVEX_Vpshldd_zmm_k1z_zmm_zmmm512b32_imm8 p reg rm ib => Sys2Proof.Machine.execEVEX_Vpshldd_zmm_k1z_zmm_zmmm512b32_imm8 p reg rm ib s
  | .EVEX_Vpshldq_xmm_k1z_xmm_xmmm128b64_imm8 p reg rm ib => Sys2Proof.Machine.execEVEX_Vpshldq_xmm_k1z_xmm_xmmm128b64_imm8 p reg rm ib s
  | .EVEX_Vpshldq_ymm_k1z_ymm_ymmm256b64_imm8 p reg rm ib => Sys2Proof.Machine.execEVEX_Vpshldq_ymm_k1z_ymm_ymmm256b64_imm8 p reg rm ib s
  | .EVEX_Vpshldq_zmm_k1z_zmm_zmmm512b64_imm8 p reg rm ib => Sys2Proof.Machine.execEVEX_Vpshldq_zmm_k1z_zmm_zmmm512b64_imm8 p reg rm ib s
  | .EVEX_Vpshrdw_xmm_k1z_xmm_xmmm128_imm8 p reg rm ib => Sys2Proof.Machine.execEVEX_Vpshrdw_xmm_k1z_xmm_xmmm128_imm8 p reg rm ib s
  | .EVEX_Vpshrdw_ymm_k1z_ymm_ymmm256_imm8 p reg rm ib => Sys2Proof.Machine.execEVEX_Vpshrdw_ymm_k1z_ymm_ymmm256_imm8 p reg rm ib s
  | .EVEX_Vpshrdw_zmm_k1z_zmm_zmmm512_imm8 p reg rm ib => Sys2Proof.Machine.execEVEX_Vpshrdw_zmm_k1z_zmm_zmmm512_imm8 p reg rm ib s
  | .EVEX_Vpshrdd_xmm_k1z_xmm_xmmm128b32_imm8 p reg rm ib => Sys2Proof.Machine.execEVEX_Vpshrdd_xmm_k1z_xmm_xmmm128b32_imm8 p reg rm ib s
  | .EVEX_Vpshrdd_ymm_k1z_ymm_ymmm256b32_imm8 p reg rm ib => Sys2Proof.Machine.execEVEX_Vpshrdd_ymm_k1z_ymm_ymmm256b32_imm8 p reg rm ib s
  | .EVEX_Vpshrdd_zmm_k1z_zmm_zmmm512b32_imm8 p reg rm ib => Sys2Proof.Machine.execEVEX_Vpshrdd_zmm_k1z_zmm_zmmm512b32_imm8 p reg rm ib s
  | .EVEX_Vpshrdq_xmm_k1z_xmm_xmmm128b64_imm8 p reg rm ib => Sys2Proof.Machine.execEVEX_Vpshrdq_xmm_k1z_xmm_xmmm128b64_imm8 p reg rm ib s
  | .EVEX_Vpshrdq_ymm_k1z_ymm_ymmm256b64_imm8 p reg rm ib => Sys2Proof.Machine.execEVEX_Vpshrdq_ymm_k1z_ymm_ymmm256b64_imm8 p reg rm ib s
  | .EVEX_Vpshrdq_zmm_k1z_zmm_zmmm512b64_imm8 p reg rm ib => Sys2Proof.Machine.execEVEX_Vpshrdq_zmm_k1z_zmm_zmmm512b64_imm8 p reg rm ib s

end Sys2Proof.Machine
end

