-- ==== Sys2Proof/Machine/Step.lean ====
section
/-! DEFINITION. One step is one transaction (spec/10_state.md R22, spec/70_reset_and_hazards.md R524 lets a model take one
step per transaction): the registers are initialised, the bytes of the window are decoded, and the instruction's meaning
runs, or the decode error is raised. The machine of one step per FSM state is `Machine/Fsm.lean`. -/

namespace Sys2Proof.Machine

open Sys2Proof

/-- The state in which a decoded instruction's meaning runs: the registers the decoder leaves, and the FSM state that
follows them (R210). -/
def State.decoded (s : State) (r : Regs) : State :=
  { s.begin with regs := r, fsm := if r.ps.space = .Legacy then .Assemble else .VectorFieldDecode }

/-- The state after a raise in the decoder. -/
def State.stopped (s : State) (st : Stop) : State :=
  State.raise { s.begin with regs := st.regs } st.err

/-- R12, R22, R222: one transaction on the inputs that the state holds. -/
def step (s : State) : Host.Outcome State Fault Refusal :=
  match decode s.rexOrder s.bitness s.window with
  | .error st => .next (s.stopped st)
  | .ok (i, r) => exec i (s.decoded r)

/-- The state with the table's word `w` where the next transaction reads: its bytes (`tableWordBytes`) at `start_offset` in
the buffer, as the caller would supply them (assumption 5). A word that is no key changes nothing. -/
def State.withFetchWord (s : State) (_nbits w : Nat) : State :=
  match tableWordBytes w with
  | [] => s
  | b :: bs => { s with buffer := s.buffer.overlay s.startOffset (b :: bs) }

end Sys2Proof.Machine
end

