-- ==== Sys2Proof/Machine/Caller.lean ====
section
/-! DEFINITION. What the caller does between transactions: it supplies the inputs (spec/70_reset_and_hazards.md R522) and
moves its own offset (R525, R526, spec/44_assembler.md R212). No step of the block does either. -/

namespace Sys2Proof.Machine

open Sys2Proof

/-- R20, R522: the inputs of the next transaction. It starts none (assumption 16). -/
def State.supply (s : State) (bytes : List Byte) (offset : Nat) (bt : Bitness) : State :=
  { s with buffer := Memory.ofBytes bytes, startOffset := offset, bitness := bt }

/-- R212, R525, R526: the caller's offset after a result: past the instruction after `Ok`, and `skip` bytes on after
`Err`, as the caller chooses. -/
def State.advance (skip : Nat) (s : State) : State :=
  match s.result with
  | .Ok insn => { s with startOffset := s.startOffset + insn.byteLength.val }
  | .Err _ => { s with startOffset := s.startOffset + skip }

end Sys2Proof.Machine
end

