-- ==== Sys2Proof/Machine/Fsm.lean ====
section
/-! DEFINITION. The state machine of spec/44_assembler.md R210, one step per FSM state, over the registers of
spec/10_state.md R23 to R29. `step` runs a whole transaction; the statements tie the two. -/

namespace Sys2Proof.Machine

open Sys2Proof

/-- R210: the state that follows the last operand byte: `Assemble` for a legacy row, else `VectorFieldDecode`. -/
def afterOperands (r : Regs) : Fsm :=
  if r.ps.space = .Legacy then .Assemble else .VectorFieldDecode

/-- R210, R500: the end of a state's work on the registers: the raise, or the registers and the next state. -/
def State.endWork (s : State) (d : Dec Regs) (next : Regs → Fsm) : State :=
  match d with
  | .error st => State.raise { s with regs := st.regs } st.err
  | .ok r => { s with regs := r, fsm := next r }

/-- The form that stands for the family in `VectorFieldDecode` (R138: its rows share shape, masking and broadcast element
size). -/
def famForm (fam : Option (List Code)) : Option Form :=
  match fam with
  | some (c :: _) => some (tableForm c)
  | some [] => none
  | none => none

/-- R199, R210: the work of `VectorFieldDecode` on the registers. -/
def State.vectorWork (s : State) : State :=
  match famForm s.regs.fam with
  | none => s.raise .InvalidVexEvexEncoding
  | some f =>
    match vectorFieldDecode f s.regs.ps (regForm s.regs) (isDisp8 s.regs.md s.regs.dispSize) with
    | .error e => s.raise e
    | .ok vf => { s with vf := vf, fsm := .Assemble }

/-- R211: the assembler's pieces, from the registers. -/
def State.pieces (s : State) : Pieces :=
  { ps := s.regs.ps, reg := (s.regs.modrm.map regField).getD 0, rm := (s.regs.modrm.map rmField).getD 0,
    md := s.regs.md, dispRaw := s.regs.dispRaw, dispSize := s.regs.dispSize, imm := s.regs.imm, vf := s.vf,
    pos := s.regs.pos }

/-- R198, R211 to R218: the work of `Assemble` on the registers. -/
def State.assembleWork (s : State) : Host.Outcome State Fault Refusal :=
  match codeOf (s.regs.fam.getD []) s.vf.vl with
  | none => .fault .assemblerMismatch
  | some c => finish (tableForm c) s.pieces s

/-- R210: the work of one FSM state. `Done` and `Error` are terminal: the next transaction starts where `fsm` is set to
`Start` from outside, which stands for the start strobe of decision D2 (assumption 16). -/
def fsmStep (s : State) : Host.Outcome State Fault Refusal :=
  match s.fsm with
  | .Start => .next s.begin
  | .PrefixScan => .next (s.endWork (prefixScan s.rexOrder s.bitness s.window s.regs) fun _ => .OpcodeLookup)
  | .OpcodeLookup =>
    .next (s.endWork (opcodeLookup s.window s.regs) fun r =>
      if needsModRM (r.entry.getD []) then .ModRM else afterOperands r)
  | .ModRM => .next (s.endWork (modrmState s.bitness s.window s.regs) afterOperands)
  | .VectorFieldDecode => .next s.vectorWork
  | .Assemble => s.assembleWork
  | .Done => .next s
  | .Error _ => .next s

/-- `k` FSM states' work. -/
def fsmRun (k : Nat) (s : State) : Host.Outcome State Fault Refusal :=
  match k with
  | 0 => .next s
  | k + 1 =>
    match fsmStep s with
    | .next s1 => fsmRun k s1
    | .fault e => .fault e
    | .refused e => .refused e

end Sys2Proof.Machine
end

