-- ==== Sys2Proof/Safety.lean ====
section
/-! DEFINITION. What a sound result and a sound state are: the invariants of every `Ok` result (spec/44_assembler.md R217)
and the ranges of the registers (spec/10_state.md R24 to R29). -/

namespace Sys2Proof.Machine

open Sys2Proof

/-- R217 item 3: a slot has a register exactly where its kind is `Register`. -/
def OpSlot.sound (o : OpSlot) : Bool :=
  match o.kind with
  | .Register => o.register.isSome
  | .Memory => o.register.isNone
  | .Immediate8 => o.register.isNone

/-- How many of a record's slots are memory. -/
def Instruction.memorySlots (r : Instruction) : Nat := (r.ops.filter fun o => decide (o.kind = .Memory)).length

/-- R217: the invariants of an `Ok` result: its length and operand count are in range, its slots have the row's kinds and
hold what their kind calls for, at most one is memory, zeroing needs an opmask, there is no rounding (R186), and the
displacement size is 0, 1, 2 or 4. -/
def Instruction.sound (r : Instruction) : Bool :=
  decide (1 ≤ r.byteLength.val) && decide (r.byteLength.val ≤ Config.maxLen) && decide (r.opCount ≤ Config.maxOps) &&
  descriptorMatches r && (r.ops.take r.opCount).all OpSlot.sound && decide (r.memorySlots ≤ 1) &&
  (r.opMask.isSome || !r.zeroingMasking) &&
  decide (r.roundingControl = .None) && !r.suppressAllExceptions &&
  decide (r.memoryDisplSize ∈ [0, 1, 2, 4])

/-- A result that is `Err`, or `Ok` with a sound record. -/
def DecodeResult.sound (x : DecodeResult) : Bool :=
  match x with
  | .Ok insn => insn.sound
  | .Err _ => true

/-- R24 to R28: the ranges of the registers: the cursor, a held REX byte, the displacement size, and scale 1 with 16-bit
addressing (R217 item 6). -/
def Regs.inRange (r : Regs) : Bool :=
  decide (r.pos.val ≤ Config.maxLen) &&
  ((r.ps.rex.map fun b => decide (b.extractLsb' 4 4 = (4 : BitVec 4))).getD true) &&
  decide (r.dispSize ∈ [0, 1, 2, 4]) &&
  ((r.md.map fun m => decide (m.as ≠ .a16) || decide (m.scale = 1)).getD true)

/-- R29: the ranges of `vf`. -/
def VectorFields.inRange (v : VectorFields) : Bool :=
  decide (v.vl ∈ [0, 128, 256, 512]) && decide (v.n ∈ [1, 4, 8, 16, 32, 64]) && (v.opmask.isSome || !v.zeroing)

/-- The invariant of the block's state: a canonical buffer, registers in range, a sound result. -/
def State.Inv (s : State) : Prop :=
  Memory.wf s.buffer = true ∧ s.regs.inRange = true ∧ s.vf.inRange = true ∧ s.result.sound = true

end Sys2Proof.Machine
end

