-- ==== Sys2Proof/Certificates/Slice0/Obligations.lean ====
section
/-! DEFINITION. The statements for the provers, and the words they are written in (namespace `Sys2Proof.Spec`): registers
by number, operand slots and records written out from spec/10_state.md R30 to R46, so that a statement says in numbers what
an instruction's rule says. -/

namespace Sys2Proof.Spec

open Sys2Proof Sys2Proof.Machine

/-! ### Registers, slots, records -/

/-- R36, R37: the register of a vector or MMX class with index `n`. -/
def vec (cls : RegClass) (n : Nat) : Register :=
  match cls with
  | .MM => .mm (BitVec.ofNat 3 n)
  | .XMM => .xmm (BitVec.ofNat 5 n)
  | .YMM => .ymm (BitVec.ofNat 5 n)
  | .ZMM => .zmm (BitVec.ofNat 5 n)

/-- R35: the general register of width AS with index `n`. -/
def gpr (as : AddrSize) (n : Nat) : Register :=
  match as with
  | .a16 => .gpr16 (BitVec.ofNat 4 n)
  | .a32 => .gpr32 (BitVec.ofNat 4 n)
  | .a64 => .gpr64 (BitVec.ofNat 4 n)

/-- The index of a register; 0 for the registers without one. -/
def index (r : Register) : Nat :=
  match r with
  | .gpr16 i => i.toNat
  | .gpr32 i => i.toNat
  | .gpr64 i => i.toNat
  | .mm i => i.toNat
  | .xmm i => i.toNat
  | .ymm i => i.toNat
  | .zmm i => i.toNat
  | .k i => i.toNat
  | .seg _ => 0
  | .rip => 0
  | .eip => 0

/-- R46: an unused slot. -/
def noOp : OpSlot := { kind := .Register, register := none, imm8 := 0 }

/-- R31: a register slot. -/
def regOp (r : Register) : OpSlot := { kind := .Register, register := some r, imm8 := 0 }

/-- R31: a memory slot. -/
def memOp : OpSlot := { kind := .Memory, register := none, imm8 := 0 }

/-- R31: an immediate slot. -/
def immOp (v : Byte) : OpSlot := { kind := .Immediate8, register := none, imm8 := v }

/-- R30 to R34: the record of Code `c`, length `len`, segment `seg` and slots `ops`, every other field at the value of an
unused field (R46) and every prefix flag 0 (R215). -/
def record (c : Code) (len : Fin 16) (seg : Option SegReg) (ops : List OpSlot) : Instruction :=
  { code := c, byteLength := len, opCount := ops.length,
    op0 := ops.getD 0 noOp, op1 := ops.getD 1 noOp, op2 := ops.getD 2 noOp, op3 := ops.getD 3 noOp,
    memorySegment := none, memoryBase := none, memoryIndex := none, memoryIndexScale := 1, memoryDisplacement := 0,
    memoryDisplSize := 0, memorySize := .Unknown,
    hasRepePrefix := false, hasRepnePrefix := false, hasLockPrefix := false, segmentPrefix := seg,
    opMask := none, zeroingMasking := false, roundingControl := .None, suppressAllExceptions := false }

/-- R213, R214: the slot of an rm operand; `n` is the index of a register rm. -/
def rmOp (cls : RegClass) (n : Nat) (rm : RMOperand) : OpSlot :=
  match rm with
  | .reg _ => regOp (vec cls n)
  | .mem _ _ _ _ => memOp

/-- R32, R165, R196, R197: the memory descriptor, where the rm operand is memory: base, index and scale by the addressing
forms (`memWork`), the displacement times the factor `n`, the memory size `ms`. -/
def withRm (bt : Bitness) (adsize X B : Bool) (seg : Option SegReg) (n : Nat) (ms : MemorySize) (rm : RMOperand)
    (r : Instruction) : Instruction :=
  match rm with
  | .reg _ => r
  | .mem mod v sib d =>
    { r with
      memorySegment := some (seg.getD .DS)
      memoryBase := (memWork bt (addrSize bt adsize) X B mod v sib).base
      memoryIndex := (memWork bt (addrSize bt adsize) X B mod v sib).index
      memoryIndexScale := (memWork bt (addrSize bt adsize) X B mod v sib).scale
      memoryDisplacement := memoryDisplacement (addrSize bt adsize) (dispRaw d) n
      memoryDisplSize := dispSize d
      memorySize := ms }

/-- R210: the transaction ends in `Done` with the record `r`; `vf` is what the vector fields hold then. Nothing else of the
state changes. -/
def completes (s : State) (vf : VectorFields) (r : Instruction) : Host.Outcome State Fault Refusal :=
  .next { s with vf := vf, fsm := .Done, result := .Ok r }

/-- R500: the transaction ends with the error `e`. Nothing else of the state changes. -/
def raises (s : State) (e : DecodeError) : Host.Outcome State Fault Refusal :=
  .next { s with fsm := .Error e, result := .Err e }

/-- R117: an extension bit, which only 64-bit bitness keeps. -/
def in64 (bt : Bitness) (b : Bool) : Bool := decide (bt = .b64) && b

/-! ### Legacy instructions -/

/-- R72, R104: bit `i` of the REX byte, 0 without one. -/
def rexBit (p : LegacyPrefix) (i : Nat) : Bool := (p.rex.getD 0).getLsbD i

/-- R194: a legacy register operand: `e:v`, and `v` alone for an MM register. -/
def legacyVec (cls : RegClass) (e : Bool) (v : BitVec 3) : Register :=
  if cls = .MM then vec cls v.toNat else vec cls (8 * e.toNat + v.toNat)

/-- R138, R194: the slot of a legacy rm operand. -/
def legacyRm (cls : RegClass) (p : LegacyPrefix) (rm : RMOperand) : OpSlot :=
  match rm with
  | .reg v => regOp (legacyVec cls (rexBit p 0) v)
  | .mem _ _ _ _ => memOp

/-- R29, R180: the vector fields of a legacy row. -/
def legacyVf : VectorFields := { vl := 0, rc := .None, sae := false, opmask := none, zeroing := false, bcst := false, n := 1 }

/-- The record of a legacy instruction, with its memory descriptor. -/
def legacyRecord (s : State) (c : Code) (ms : MemorySize) (p : LegacyPrefix) (rm : RMOperand) (ops : List OpSlot) :
    Instruction :=
  withRm s.bitness p.adsize (rexBit p 1) (rexBit p 0) p.seg 1 ms rm (record c s.regs.pos p.seg ops)

/-! ### VEX instructions -/

/-- R188, R194: the index of the vvvv register of a VEX instruction. -/
def vexV (bt : Bitness) (p : VexPrefix) : Nat := if bt = .b64 then p.vvvv.toNat else p.vvvv.toNat % 8

/-- R194: the index of the reg register of a VEX instruction. -/
def vexReg (bt : Bitness) (p : VexPrefix) (reg : BitVec 3) : Nat := 8 * (in64 bt p.R).toNat + reg.toNat

/-- R194: the index of the rm register of a VEX instruction. -/
def vexRm (bt : Bitness) (p : VexPrefix) (rm : BitVec 3) : Nat := 8 * (in64 bt p.B).toNat + rm.toNat

/-- R29, R181, R190: the vector fields of a VEX row. -/
def vexVf (vl : Nat) : VectorFields :=
  { vl := vl, rc := .None, sae := false, opmask := none, zeroing := false, bcst := false, n := 1 }

/-- The record of a VEX instruction, with its memory descriptor. -/
def vexRecord (s : State) (c : Code) (ms : MemorySize) (p : VexPrefix) (rm : RMOperand) (ops : List OpSlot) : Instruction :=
  withRm s.bitness p.adsize (in64 s.bitness p.X) (in64 s.bitness p.B) p.seg 1 ms rm (record c s.regs.pos p.seg ops)

/-! ### EVEX instructions -/

/-- R188, R194: the index of the vvvv register of an EVEX instruction. -/
def evexV (bt : Bitness) (p : EvexPrefix) : Nat :=
  if bt = .b64 then 16 * p.Vp.toNat + p.vvvv.toNat else p.vvvv.toNat % 8

/-- R194: the index of the reg register of an EVEX instruction. -/
def evexReg (bt : Bitness) (p : EvexPrefix) (reg : BitVec 3) : Nat :=
  16 * (in64 bt p.Rp).toNat + 8 * (in64 bt p.R).toNat + reg.toNat

/-- R194: the index of the rm register of an EVEX instruction. -/
def evexRm (bt : Bitness) (p : EvexPrefix) (rm : BitVec 3) : Nat :=
  16 * (in64 bt p.X).toNat + 8 * (in64 bt p.B).toNat + rm.toNat

/-- R195: the displacement factor: for a 1-byte displacement the broadcast element size, or the vector length in bytes. -/
def factor (vl elem : Nat) (b : Bool) (rm : RMOperand) : Nat :=
  match rm with
  | .mem _ _ _ (.d8 _) => if b then elem else vl / 8
  | _ => 1

/-- The element size of a row's broadcast; 0 without one. -/
def elemOf (bc : Option (MemorySize × Nat)) : Nat := (bc.map Prod.snd).getD 0

/-- R197: the memory size: with b = 1 the row's broadcast size. -/
def sizeOf (ms : MemorySize) (bc : Option (MemorySize × Nat)) (b : Bool) : MemorySize :=
  if b then (bc.map Prod.fst).getD ms else ms

/-- R190: the opmask of `aaa`. -/
def maskReg (aaa : BitVec 3) : Option Register := if aaa = 0 then none else some (.k aaa)

/-- R29: the vector fields of an EVEX row. -/
def evexVf (vl : Nat) (bc : Option (MemorySize × Nat)) (p : EvexPrefix) (rm : RMOperand) : VectorFields :=
  { vl := vl, rc := .None, sae := false, opmask := maskReg p.aaa, zeroing := p.z, bcst := p.b,
    n := factor vl (elemOf bc) p.b rm }

/-- The record of an EVEX instruction, with its memory descriptor, opmask and zeroing. -/
def evexRecord (s : State) (c : Code) (vl : Nat) (ms : MemorySize) (bc : Option (MemorySize × Nat)) (p : EvexPrefix)
    (rm : RMOperand) (ops : List OpSlot) : Instruction :=
  withRm s.bitness p.adsize (in64 s.bitness p.X) (in64 s.bitness p.B) p.seg (factor vl (elemOf bc) p.b rm)
    (sizeOf ms bc p.b) rm
    { record c s.regs.pos p.seg ops with opMask := maskReg p.aaa, zeroingMasking := p.z }

/-- R184, R187: b = 1 stands only with a memory operand of a row that has a broadcast form. -/
def broadcastOk (bc : Option (MemorySize × Nat)) (p : EvexPrefix) (rm : RMOperand) : Prop :=
  p.b = true → rm.isReg = false ∧ bc ≠ none

/-- R191: z = 1 stands only with an opmask. -/
def zeroingOk (p : EvexPrefix) : Prop := p.z = true → p.aaa ≠ 0

/-! ### The instructions by shape, as their rules name them -/

/-- R300 to R303: the legacy shuffles (reg, rm, imm8: constructor, Code, class, memory size). -/
def legacyShuffles : List ((LegacyPrefix → BitVec 3 → RMOperand → Byte → Instr) × Code × RegClass × MemorySize) :=
  [(Instr.Pshufw_mm_mmm64_imm8, .Pshufw_mm_mmm64_imm8, .MM, .Packed64_Int16),
   (Instr.Pshufd_xmm_xmmm128_imm8, .Pshufd_xmm_xmmm128_imm8, .XMM, .Packed128_Int32),
   (Instr.Pshufhw_xmm_xmmm128_imm8, .Pshufhw_xmm_xmmm128_imm8, .XMM, .Packed128_Int16),
   (Instr.Pshuflw_xmm_xmmm128_imm8, .Pshuflw_xmm_xmmm128_imm8, .XMM, .Packed128_Int16)]

/-- R304, R306, R308, R310, R312, R314, R316, R319: the legacy shifts of an MM register
(rm (register only), imm8: constructor, Code). -/
def legacyMmxShifts : List ((LegacyPrefix → BitVec 3 → Byte → Instr) × Code) :=
  [(Instr.Psrlw_mm_imm8, .Psrlw_mm_imm8),
   (Instr.Psraw_mm_imm8, .Psraw_mm_imm8),
   (Instr.Psllw_mm_imm8, .Psllw_mm_imm8),
   (Instr.Psrld_mm_imm8, .Psrld_mm_imm8),
   (Instr.Psrad_mm_imm8, .Psrad_mm_imm8),
   (Instr.Pslld_mm_imm8, .Pslld_mm_imm8),
   (Instr.Psrlq_mm_imm8, .Psrlq_mm_imm8),
   (Instr.Psllq_mm_imm8, .Psllq_mm_imm8)]

/-- R305, R307, R309, R311, R313, R315, R317 to R318, R320 to R321: the legacy shifts of an XMM register
(rm (register only), imm8: constructor, Code). -/
def legacyXmmShifts : List ((LegacyPrefix → BitVec 3 → Byte → Instr) × Code) :=
  [(Instr.Psrlw_xmm_imm8, .Psrlw_xmm_imm8),
   (Instr.Psraw_xmm_imm8, .Psraw_xmm_imm8),
   (Instr.Psllw_xmm_imm8, .Psllw_xmm_imm8),
   (Instr.Psrld_xmm_imm8, .Psrld_xmm_imm8),
   (Instr.Psrad_xmm_imm8, .Psrad_xmm_imm8),
   (Instr.Pslld_xmm_imm8, .Pslld_xmm_imm8),
   (Instr.Psrlq_xmm_imm8, .Psrlq_xmm_imm8),
   (Instr.Psrldq_xmm_imm8, .Psrldq_xmm_imm8),
   (Instr.Psllq_xmm_imm8, .Psllq_xmm_imm8),
   (Instr.Pslldq_xmm_imm8, .Pslldq_xmm_imm8)]

/-- R322 to R327: the legacy compares (reg, rm: constructor, Code, class, memory size). -/
def legacyCompares : List ((LegacyPrefix → BitVec 3 → RMOperand → Instr) × Code × RegClass × MemorySize) :=
  [(Instr.Pcmpeqb_mm_mmm64, .Pcmpeqb_mm_mmm64, .MM, .Packed64_Int8),
   (Instr.Pcmpeqb_xmm_xmmm128, .Pcmpeqb_xmm_xmmm128, .XMM, .Packed128_Int8),
   (Instr.Pcmpeqw_mm_mmm64, .Pcmpeqw_mm_mmm64, .MM, .Packed64_Int16),
   (Instr.Pcmpeqw_xmm_xmmm128, .Pcmpeqw_xmm_xmmm128, .XMM, .Packed128_Int16),
   (Instr.Pcmpeqd_mm_mmm64, .Pcmpeqd_mm_mmm64, .MM, .Packed64_Int32),
   (Instr.Pcmpeqd_xmm_xmmm128, .Pcmpeqd_xmm_xmmm128, .XMM, .Packed128_Int32)]

/-- R340 to R345: the VEX shuffles (reg, rm, imm8; vvvv unused: constructor, Code, VL, class, memory size). -/
def vexShuffles : List ((VexPrefix → BitVec 3 → RMOperand → Byte → Instr) × Code × Nat × RegClass × MemorySize) :=
  [(Instr.VEX_Vpshufd_xmm_xmmm128_imm8, .VEX_Vpshufd_xmm_xmmm128_imm8, 128, .XMM, .Packed128_Int32),
   (Instr.VEX_Vpshufd_ymm_ymmm256_imm8, .VEX_Vpshufd_ymm_ymmm256_imm8, 256, .YMM, .Packed256_Int32),
   (Instr.VEX_Vpshufhw_xmm_xmmm128_imm8, .VEX_Vpshufhw_xmm_xmmm128_imm8, 128, .XMM, .Packed128_Int16),
   (Instr.VEX_Vpshufhw_ymm_ymmm256_imm8, .VEX_Vpshufhw_ymm_ymmm256_imm8, 256, .YMM, .Packed256_Int16),
   (Instr.VEX_Vpshuflw_xmm_xmmm128_imm8, .VEX_Vpshuflw_xmm_xmmm128_imm8, 128, .XMM, .Packed128_Int16),
   (Instr.VEX_Vpshuflw_ymm_ymmm256_imm8, .VEX_Vpshuflw_ymm_ymmm256_imm8, 256, .YMM, .Packed256_Int16)]

/-- R346 to R365: the VEX shifts (vvvv, rm (register only), imm8: constructor, Code, VL, class). -/
def vexShifts : List ((VexPrefix → BitVec 3 → Byte → Instr) × Code × Nat × RegClass) :=
  [(Instr.VEX_Vpsrlw_xmm_xmm_imm8, .VEX_Vpsrlw_xmm_xmm_imm8, 128, .XMM),
   (Instr.VEX_Vpsrlw_ymm_ymm_imm8, .VEX_Vpsrlw_ymm_ymm_imm8, 256, .YMM),
   (Instr.VEX_Vpsraw_xmm_xmm_imm8, .VEX_Vpsraw_xmm_xmm_imm8, 128, .XMM),
   (Instr.VEX_Vpsraw_ymm_ymm_imm8, .VEX_Vpsraw_ymm_ymm_imm8, 256, .YMM),
   (Instr.VEX_Vpsllw_xmm_xmm_imm8, .VEX_Vpsllw_xmm_xmm_imm8, 128, .XMM),
   (Instr.VEX_Vpsllw_ymm_ymm_imm8, .VEX_Vpsllw_ymm_ymm_imm8, 256, .YMM),
   (Instr.VEX_Vpsrld_xmm_xmm_imm8, .VEX_Vpsrld_xmm_xmm_imm8, 128, .XMM),
   (Instr.VEX_Vpsrld_ymm_ymm_imm8, .VEX_Vpsrld_ymm_ymm_imm8, 256, .YMM),
   (Instr.VEX_Vpsrad_xmm_xmm_imm8, .VEX_Vpsrad_xmm_xmm_imm8, 128, .XMM),
   (Instr.VEX_Vpsrad_ymm_ymm_imm8, .VEX_Vpsrad_ymm_ymm_imm8, 256, .YMM),
   (Instr.VEX_Vpslld_xmm_xmm_imm8, .VEX_Vpslld_xmm_xmm_imm8, 128, .XMM),
   (Instr.VEX_Vpslld_ymm_ymm_imm8, .VEX_Vpslld_ymm_ymm_imm8, 256, .YMM)] ++
  [(Instr.VEX_Vpsrlq_xmm_xmm_imm8, .VEX_Vpsrlq_xmm_xmm_imm8, 128, .XMM),
   (Instr.VEX_Vpsrlq_ymm_ymm_imm8, .VEX_Vpsrlq_ymm_ymm_imm8, 256, .YMM),
   (Instr.VEX_Vpsrldq_xmm_xmm_imm8, .VEX_Vpsrldq_xmm_xmm_imm8, 128, .XMM),
   (Instr.VEX_Vpsrldq_ymm_ymm_imm8, .VEX_Vpsrldq_ymm_ymm_imm8, 256, .YMM),
   (Instr.VEX_Vpsllq_xmm_xmm_imm8, .VEX_Vpsllq_xmm_xmm_imm8, 128, .XMM),
   (Instr.VEX_Vpsllq_ymm_ymm_imm8, .VEX_Vpsllq_ymm_ymm_imm8, 256, .YMM),
   (Instr.VEX_Vpslldq_xmm_xmm_imm8, .VEX_Vpslldq_xmm_xmm_imm8, 128, .XMM),
   (Instr.VEX_Vpslldq_ymm_ymm_imm8, .VEX_Vpslldq_ymm_ymm_imm8, 256, .YMM)]

/-- R366 to R371: the VEX compares (reg, vvvv, rm: constructor, Code, VL, class, memory size). -/
def vexCompares : List ((VexPrefix → BitVec 3 → RMOperand → Instr) × Code × Nat × RegClass × MemorySize) :=
  [(Instr.VEX_Vpcmpeqb_xmm_xmm_xmmm128, .VEX_Vpcmpeqb_xmm_xmm_xmmm128, 128, .XMM, .Packed128_Int8),
   (Instr.VEX_Vpcmpeqb_ymm_ymm_ymmm256, .VEX_Vpcmpeqb_ymm_ymm_ymmm256, 256, .YMM, .Packed256_Int8),
   (Instr.VEX_Vpcmpeqw_xmm_xmm_xmmm128, .VEX_Vpcmpeqw_xmm_xmm_xmmm128, 128, .XMM, .Packed128_Int16),
   (Instr.VEX_Vpcmpeqw_ymm_ymm_ymmm256, .VEX_Vpcmpeqw_ymm_ymm_ymmm256, 256, .YMM, .Packed256_Int16),
   (Instr.VEX_Vpcmpeqd_xmm_xmm_xmmm128, .VEX_Vpcmpeqd_xmm_xmm_xmmm128, 128, .XMM, .Packed128_Int32),
   (Instr.VEX_Vpcmpeqd_ymm_ymm_ymmm256, .VEX_Vpcmpeqd_ymm_ymm_ymmm256, 256, .YMM, .Packed256_Int32)]

/-- R372 to R373: the VZEROUPPER and VZEROALL (no operands; vvvv unused: constructor, Code, VL). -/
def vexZeros : List ((VexPrefix → Instr) × Code × Nat) :=
  [(Instr.VEX_Vzeroupper, .VEX_Vzeroupper, 128),
   (Instr.VEX_Vzeroall, .VEX_Vzeroall, 256)]

/-- R380 to R388: the EVEX shuffles
(reg, rm, imm8; vvvv unused: constructor, Code, VL, class, memory size, broadcast memory size and element size). -/
def evexShuffles : List ((EvexPrefix → BitVec 3 → RMOperand → Byte → Instr) × Code × Nat × RegClass × MemorySize × Option (MemorySize × Nat)) :=
  [(Instr.EVEX_Vpshufd_xmm_k1z_xmmm128b32_imm8, .EVEX_Vpshufd_xmm_k1z_xmmm128b32_imm8, 128, .XMM, .Packed128_Int32, some (.Broadcast128_Int32, 4)),
   (Instr.EVEX_Vpshufd_ymm_k1z_ymmm256b32_imm8, .EVEX_Vpshufd_ymm_k1z_ymmm256b32_imm8, 256, .YMM, .Packed256_Int32, some (.Broadcast256_Int32, 4)),
   (Instr.EVEX_Vpshufd_zmm_k1z_zmmm512b32_imm8, .EVEX_Vpshufd_zmm_k1z_zmmm512b32_imm8, 512, .ZMM, .Packed512_Int32, some (.Broadcast512_Int32, 4)),
   (Instr.EVEX_Vpshufhw_xmm_k1z_xmmm128_imm8, .EVEX_Vpshufhw_xmm_k1z_xmmm128_imm8, 128, .XMM, .Packed128_Int16, none),
   (Instr.EVEX_Vpshufhw_ymm_k1z_ymmm256_imm8, .EVEX_Vpshufhw_ymm_k1z_ymmm256_imm8, 256, .YMM, .Packed256_Int16, none),
   (Instr.EVEX_Vpshufhw_zmm_k1z_zmmm512_imm8, .EVEX_Vpshufhw_zmm_k1z_zmmm512_imm8, 512, .ZMM, .Packed512_Int16, none),
   (Instr.EVEX_Vpshuflw_xmm_k1z_xmmm128_imm8, .EVEX_Vpshuflw_xmm_k1z_xmmm128_imm8, 128, .XMM, .Packed128_Int16, none),
   (Instr.EVEX_Vpshuflw_ymm_k1z_ymmm256_imm8, .EVEX_Vpshuflw_ymm_k1z_ymmm256_imm8, 256, .YMM, .Packed256_Int16, none),
   (Instr.EVEX_Vpshuflw_zmm_k1z_zmmm512_imm8, .EVEX_Vpshuflw_zmm_k1z_zmmm512_imm8, 512, .ZMM, .Packed512_Int16, none)]

/-- R389 to R397: the EVEX word shifts
(vvvv, rm, imm8; no broadcast: constructor, Code, VL, class, memory size, broadcast memory size and element size). -/
def evexWordShifts : List ((EvexPrefix → RMOperand → Byte → Instr) × Code × Nat × RegClass × MemorySize × Option (MemorySize × Nat)) :=
  [(Instr.EVEX_Vpsrlw_xmm_k1z_xmmm128_imm8, .EVEX_Vpsrlw_xmm_k1z_xmmm128_imm8, 128, .XMM, .Packed128_UInt16, none),
   (Instr.EVEX_Vpsrlw_ymm_k1z_ymmm256_imm8, .EVEX_Vpsrlw_ymm_k1z_ymmm256_imm8, 256, .YMM, .Packed256_UInt16, none),
   (Instr.EVEX_Vpsrlw_zmm_k1z_zmmm512_imm8, .EVEX_Vpsrlw_zmm_k1z_zmmm512_imm8, 512, .ZMM, .Packed512_UInt16, none),
   (Instr.EVEX_Vpsraw_xmm_k1z_xmmm128_imm8, .EVEX_Vpsraw_xmm_k1z_xmmm128_imm8, 128, .XMM, .Packed128_Int16, none),
   (Instr.EVEX_Vpsraw_ymm_k1z_ymmm256_imm8, .EVEX_Vpsraw_ymm_k1z_ymmm256_imm8, 256, .YMM, .Packed256_Int16, none),
   (Instr.EVEX_Vpsraw_zmm_k1z_zmmm512_imm8, .EVEX_Vpsraw_zmm_k1z_zmmm512_imm8, 512, .ZMM, .Packed512_Int16, none),
   (Instr.EVEX_Vpsllw_xmm_k1z_xmmm128_imm8, .EVEX_Vpsllw_xmm_k1z_xmmm128_imm8, 128, .XMM, .Packed128_UInt16, none),
   (Instr.EVEX_Vpsllw_ymm_k1z_ymmm256_imm8, .EVEX_Vpsllw_ymm_k1z_ymmm256_imm8, 256, .YMM, .Packed256_UInt16, none),
   (Instr.EVEX_Vpsllw_zmm_k1z_zmmm512_imm8, .EVEX_Vpsllw_zmm_k1z_zmmm512_imm8, 512, .ZMM, .Packed512_UInt16, none)]

/-- R398 to R409: the EVEX rotates
(vvvv, rm, imm8: constructor, Code, VL, class, memory size, broadcast memory size and element size). -/
def evexRotates : List ((EvexPrefix → RMOperand → Byte → Instr) × Code × Nat × RegClass × MemorySize × Option (MemorySize × Nat)) :=
  [(Instr.EVEX_Vprord_xmm_k1z_xmmm128b32_imm8, .EVEX_Vprord_xmm_k1z_xmmm128b32_imm8, 128, .XMM, .Packed128_UInt32, some (.Broadcast128_UInt32, 4)),
   (Instr.EVEX_Vprord_ymm_k1z_ymmm256b32_imm8, .EVEX_Vprord_ymm_k1z_ymmm256b32_imm8, 256, .YMM, .Packed256_UInt32, some (.Broadcast256_UInt32, 4)),
   (Instr.EVEX_Vprord_zmm_k1z_zmmm512b32_imm8, .EVEX_Vprord_zmm_k1z_zmmm512b32_imm8, 512, .ZMM, .Packed512_UInt32, some (.Broadcast512_UInt32, 4)),
   (Instr.EVEX_Vprorq_xmm_k1z_xmmm128b64_imm8, .EVEX_Vprorq_xmm_k1z_xmmm128b64_imm8, 128, .XMM, .Packed128_UInt64, some (.Broadcast128_UInt64, 8)),
   (Instr.EVEX_Vprorq_ymm_k1z_ymmm256b64_imm8, .EVEX_Vprorq_ymm_k1z_ymmm256b64_imm8, 256, .YMM, .Packed256_UInt64, some (.Broadcast256_UInt64, 8)),
   (Instr.EVEX_Vprorq_zmm_k1z_zmmm512b64_imm8, .EVEX_Vprorq_zmm_k1z_zmmm512b64_imm8, 512, .ZMM, .Packed512_UInt64, some (.Broadcast512_UInt64, 8)),
   (Instr.EVEX_Vprold_xmm_k1z_xmmm128b32_imm8, .EVEX_Vprold_xmm_k1z_xmmm128b32_imm8, 128, .XMM, .Packed128_UInt32, some (.Broadcast128_UInt32, 4)),
   (Instr.EVEX_Vprold_ymm_k1z_ymmm256b32_imm8, .EVEX_Vprold_ymm_k1z_ymmm256b32_imm8, 256, .YMM, .Packed256_UInt32, some (.Broadcast256_UInt32, 4)),
   (Instr.EVEX_Vprold_zmm_k1z_zmmm512b32_imm8, .EVEX_Vprold_zmm_k1z_zmmm512b32_imm8, 512, .ZMM, .Packed512_UInt32, some (.Broadcast512_UInt32, 4)),
   (Instr.EVEX_Vprolq_xmm_k1z_xmmm128b64_imm8, .EVEX_Vprolq_xmm_k1z_xmmm128b64_imm8, 128, .XMM, .Packed128_UInt64, some (.Broadcast128_UInt64, 8)),
   (Instr.EVEX_Vprolq_ymm_k1z_ymmm256b64_imm8, .EVEX_Vprolq_ymm_k1z_ymmm256b64_imm8, 256, .YMM, .Packed256_UInt64, some (.Broadcast256_UInt64, 8)),
   (Instr.EVEX_Vprolq_zmm_k1z_zmmm512b64_imm8, .EVEX_Vprolq_zmm_k1z_zmmm512b64_imm8, 512, .ZMM, .Packed512_UInt64, some (.Broadcast512_UInt64, 8))]

/-- R410 to R424, R428 to R430: the EVEX doubleword and quadword shifts
(vvvv, rm, imm8: constructor, Code, VL, class, memory size, broadcast memory size and element size). -/
def evexElementShifts : List ((EvexPrefix → RMOperand → Byte → Instr) × Code × Nat × RegClass × MemorySize × Option (MemorySize × Nat)) :=
  [(Instr.EVEX_Vpsrld_xmm_k1z_xmmm128b32_imm8, .EVEX_Vpsrld_xmm_k1z_xmmm128b32_imm8, 128, .XMM, .Packed128_UInt32, some (.Broadcast128_UInt32, 4)),
   (Instr.EVEX_Vpsrld_ymm_k1z_ymmm256b32_imm8, .EVEX_Vpsrld_ymm_k1z_ymmm256b32_imm8, 256, .YMM, .Packed256_UInt32, some (.Broadcast256_UInt32, 4)),
   (Instr.EVEX_Vpsrld_zmm_k1z_zmmm512b32_imm8, .EVEX_Vpsrld_zmm_k1z_zmmm512b32_imm8, 512, .ZMM, .Packed512_UInt32, some (.Broadcast512_UInt32, 4)),
   (Instr.EVEX_Vpsrad_xmm_k1z_xmmm128b32_imm8, .EVEX_Vpsrad_xmm_k1z_xmmm128b32_imm8, 128, .XMM, .Packed128_Int32, some (.Broadcast128_Int32, 4)),
   (Instr.EVEX_Vpsrad_ymm_k1z_ymmm256b32_imm8, .EVEX_Vpsrad_ymm_k1z_ymmm256b32_imm8, 256, .YMM, .Packed256_Int32, some (.Broadcast256_Int32, 4)),
   (Instr.EVEX_Vpsrad_zmm_k1z_zmmm512b32_imm8, .EVEX_Vpsrad_zmm_k1z_zmmm512b32_imm8, 512, .ZMM, .Packed512_Int32, some (.Broadcast512_Int32, 4)),
   (Instr.EVEX_Vpsraq_xmm_k1z_xmmm128b64_imm8, .EVEX_Vpsraq_xmm_k1z_xmmm128b64_imm8, 128, .XMM, .Packed128_Int64, some (.Broadcast128_Int64, 8)),
   (Instr.EVEX_Vpsraq_ymm_k1z_ymmm256b64_imm8, .EVEX_Vpsraq_ymm_k1z_ymmm256b64_imm8, 256, .YMM, .Packed256_Int64, some (.Broadcast256_Int64, 8)),
   (Instr.EVEX_Vpsraq_zmm_k1z_zmmm512b64_imm8, .EVEX_Vpsraq_zmm_k1z_zmmm512b64_imm8, 512, .ZMM, .Packed512_Int64, some (.Broadcast512_Int64, 8)),
   (Instr.EVEX_Vpslld_xmm_k1z_xmmm128b32_imm8, .EVEX_Vpslld_xmm_k1z_xmmm128b32_imm8, 128, .XMM, .Packed128_UInt32, some (.Broadcast128_UInt32, 4)),
   (Instr.EVEX_Vpslld_ymm_k1z_ymmm256b32_imm8, .EVEX_Vpslld_ymm_k1z_ymmm256b32_imm8, 256, .YMM, .Packed256_UInt32, some (.Broadcast256_UInt32, 4)),
   (Instr.EVEX_Vpslld_zmm_k1z_zmmm512b32_imm8, .EVEX_Vpslld_zmm_k1z_zmmm512b32_imm8, 512, .ZMM, .Packed512_UInt32, some (.Broadcast512_UInt32, 4))] ++
  [(Instr.EVEX_Vpsrlq_xmm_k1z_xmmm128b64_imm8, .EVEX_Vpsrlq_xmm_k1z_xmmm128b64_imm8, 128, .XMM, .Packed128_UInt64, some (.Broadcast128_UInt64, 8)),
   (Instr.EVEX_Vpsrlq_ymm_k1z_ymmm256b64_imm8, .EVEX_Vpsrlq_ymm_k1z_ymmm256b64_imm8, 256, .YMM, .Packed256_UInt64, some (.Broadcast256_UInt64, 8)),
   (Instr.EVEX_Vpsrlq_zmm_k1z_zmmm512b64_imm8, .EVEX_Vpsrlq_zmm_k1z_zmmm512b64_imm8, 512, .ZMM, .Packed512_UInt64, some (.Broadcast512_UInt64, 8)),
   (Instr.EVEX_Vpsllq_xmm_k1z_xmmm128b64_imm8, .EVEX_Vpsllq_xmm_k1z_xmmm128b64_imm8, 128, .XMM, .Packed128_UInt64, some (.Broadcast128_UInt64, 8)),
   (Instr.EVEX_Vpsllq_ymm_k1z_ymmm256b64_imm8, .EVEX_Vpsllq_ymm_k1z_ymmm256b64_imm8, 256, .YMM, .Packed256_UInt64, some (.Broadcast256_UInt64, 8)),
   (Instr.EVEX_Vpsllq_zmm_k1z_zmmm512b64_imm8, .EVEX_Vpsllq_zmm_k1z_zmmm512b64_imm8, 512, .ZMM, .Packed512_UInt64, some (.Broadcast512_UInt64, 8))]

/-- R425 to R427, R431 to R433: the EVEX byte shifts
(vvvv, rm, imm8; no masking, no broadcast: constructor, Code, VL, class, memory size, broadcast memory size and element size). -/
def evexByteShifts : List ((EvexPrefix → RMOperand → Byte → Instr) × Code × Nat × RegClass × MemorySize × Option (MemorySize × Nat)) :=
  [(Instr.EVEX_Vpsrldq_xmm_xmmm128_imm8, .EVEX_Vpsrldq_xmm_xmmm128_imm8, 128, .XMM, .UInt128, none),
   (Instr.EVEX_Vpsrldq_ymm_ymmm256_imm8, .EVEX_Vpsrldq_ymm_ymmm256_imm8, 256, .YMM, .UInt256, none),
   (Instr.EVEX_Vpsrldq_zmm_zmmm512_imm8, .EVEX_Vpsrldq_zmm_zmmm512_imm8, 512, .ZMM, .UInt512, none),
   (Instr.EVEX_Vpslldq_xmm_xmmm128_imm8, .EVEX_Vpslldq_xmm_xmmm128_imm8, 128, .XMM, .UInt128, none),
   (Instr.EVEX_Vpslldq_ymm_ymmm256_imm8, .EVEX_Vpslldq_ymm_ymmm256_imm8, 256, .YMM, .UInt256, none),
   (Instr.EVEX_Vpslldq_zmm_zmmm512_imm8, .EVEX_Vpslldq_zmm_zmmm512_imm8, 512, .ZMM, .UInt512, none)]

/-- R440 to R448: the EVEX compares
(a K register (reg), vvvv, rm; merging masking only: constructor, Code, VL, class, memory size, broadcast memory size and element size). -/
def evexCompares : List ((EvexPrefix → BitVec 3 → RMOperand → Instr) × Code × Nat × RegClass × MemorySize × Option (MemorySize × Nat)) :=
  [(Instr.EVEX_Vpcmpeqb_kr_k1_xmm_xmmm128, .EVEX_Vpcmpeqb_kr_k1_xmm_xmmm128, 128, .XMM, .Packed128_Int8, none),
   (Instr.EVEX_Vpcmpeqb_kr_k1_ymm_ymmm256, .EVEX_Vpcmpeqb_kr_k1_ymm_ymmm256, 256, .YMM, .Packed256_Int8, none),
   (Instr.EVEX_Vpcmpeqb_kr_k1_zmm_zmmm512, .EVEX_Vpcmpeqb_kr_k1_zmm_zmmm512, 512, .ZMM, .Packed512_Int8, none),
   (Instr.EVEX_Vpcmpeqw_kr_k1_xmm_xmmm128, .EVEX_Vpcmpeqw_kr_k1_xmm_xmmm128, 128, .XMM, .Packed128_Int16, none),
   (Instr.EVEX_Vpcmpeqw_kr_k1_ymm_ymmm256, .EVEX_Vpcmpeqw_kr_k1_ymm_ymmm256, 256, .YMM, .Packed256_Int16, none),
   (Instr.EVEX_Vpcmpeqw_kr_k1_zmm_zmmm512, .EVEX_Vpcmpeqw_kr_k1_zmm_zmmm512, 512, .ZMM, .Packed512_Int16, none),
   (Instr.EVEX_Vpcmpeqd_kr_k1_xmm_xmmm128b32, .EVEX_Vpcmpeqd_kr_k1_xmm_xmmm128b32, 128, .XMM, .Packed128_Int32, some (.Broadcast128_Int32, 4)),
   (Instr.EVEX_Vpcmpeqd_kr_k1_ymm_ymmm256b32, .EVEX_Vpcmpeqd_kr_k1_ymm_ymmm256b32, 256, .YMM, .Packed256_Int32, some (.Broadcast256_Int32, 4)),
   (Instr.EVEX_Vpcmpeqd_kr_k1_zmm_zmmm512b32, .EVEX_Vpcmpeqd_kr_k1_zmm_zmmm512b32, 512, .ZMM, .Packed512_Int32, some (.Broadcast512_Int32, 4))]

/-- R449 to R466: the EVEX concatenating shifts
(reg, vvvv, rm, imm8: constructor, Code, VL, class, memory size, broadcast memory size and element size). -/
def evexConcatShifts : List ((EvexPrefix → BitVec 3 → RMOperand → Byte → Instr) × Code × Nat × RegClass × MemorySize × Option (MemorySize × Nat)) :=
  [(Instr.EVEX_Vpshldw_xmm_k1z_xmm_xmmm128_imm8, .EVEX_Vpshldw_xmm_k1z_xmm_xmmm128_imm8, 128, .XMM, .Packed128_UInt16, none),
   (Instr.EVEX_Vpshldw_ymm_k1z_ymm_ymmm256_imm8, .EVEX_Vpshldw_ymm_k1z_ymm_ymmm256_imm8, 256, .YMM, .Packed256_UInt16, none),
   (Instr.EVEX_Vpshldw_zmm_k1z_zmm_zmmm512_imm8, .EVEX_Vpshldw_zmm_k1z_zmm_zmmm512_imm8, 512, .ZMM, .Packed512_UInt16, none),
   (Instr.EVEX_Vpshldd_xmm_k1z_xmm_xmmm128b32_imm8, .EVEX_Vpshldd_xmm_k1z_xmm_xmmm128b32_imm8, 128, .XMM, .Packed128_UInt32, some (.Broadcast128_UInt32, 4)),
   (Instr.EVEX_Vpshldd_ymm_k1z_ymm_ymmm256b32_imm8, .EVEX_Vpshldd_ymm_k1z_ymm_ymmm256b32_imm8, 256, .YMM, .Packed256_UInt32, some (.Broadcast256_UInt32, 4)),
   (Instr.EVEX_Vpshldd_zmm_k1z_zmm_zmmm512b32_imm8, .EVEX_Vpshldd_zmm_k1z_zmm_zmmm512b32_imm8, 512, .ZMM, .Packed512_UInt32, some (.Broadcast512_UInt32, 4)),
   (Instr.EVEX_Vpshldq_xmm_k1z_xmm_xmmm128b64_imm8, .EVEX_Vpshldq_xmm_k1z_xmm_xmmm128b64_imm8, 128, .XMM, .Packed128_UInt64, some (.Broadcast128_UInt64, 8)),
   (Instr.EVEX_Vpshldq_ymm_k1z_ymm_ymmm256b64_imm8, .EVEX_Vpshldq_ymm_k1z_ymm_ymmm256b64_imm8, 256, .YMM, .Packed256_UInt64, some (.Broadcast256_UInt64, 8)),
   (Instr.EVEX_Vpshldq_zmm_k1z_zmm_zmmm512b64_imm8, .EVEX_Vpshldq_zmm_k1z_zmm_zmmm512b64_imm8, 512, .ZMM, .Packed512_UInt64, some (.Broadcast512_UInt64, 8)),
   (Instr.EVEX_Vpshrdw_xmm_k1z_xmm_xmmm128_imm8, .EVEX_Vpshrdw_xmm_k1z_xmm_xmmm128_imm8, 128, .XMM, .Packed128_UInt16, none),
   (Instr.EVEX_Vpshrdw_ymm_k1z_ymm_ymmm256_imm8, .EVEX_Vpshrdw_ymm_k1z_ymm_ymmm256_imm8, 256, .YMM, .Packed256_UInt16, none),
   (Instr.EVEX_Vpshrdw_zmm_k1z_zmm_zmmm512_imm8, .EVEX_Vpshrdw_zmm_k1z_zmm_zmmm512_imm8, 512, .ZMM, .Packed512_UInt16, none)] ++
  [(Instr.EVEX_Vpshrdd_xmm_k1z_xmm_xmmm128b32_imm8, .EVEX_Vpshrdd_xmm_k1z_xmm_xmmm128b32_imm8, 128, .XMM, .Packed128_UInt32, some (.Broadcast128_UInt32, 4)),
   (Instr.EVEX_Vpshrdd_ymm_k1z_ymm_ymmm256b32_imm8, .EVEX_Vpshrdd_ymm_k1z_ymm_ymmm256b32_imm8, 256, .YMM, .Packed256_UInt32, some (.Broadcast256_UInt32, 4)),
   (Instr.EVEX_Vpshrdd_zmm_k1z_zmm_zmmm512b32_imm8, .EVEX_Vpshrdd_zmm_k1z_zmm_zmmm512b32_imm8, 512, .ZMM, .Packed512_UInt32, some (.Broadcast512_UInt32, 4)),
   (Instr.EVEX_Vpshrdq_xmm_k1z_xmm_xmmm128b64_imm8, .EVEX_Vpshrdq_xmm_k1z_xmm_xmmm128b64_imm8, 128, .XMM, .Packed128_UInt64, some (.Broadcast128_UInt64, 8)),
   (Instr.EVEX_Vpshrdq_ymm_k1z_ymm_ymmm256b64_imm8, .EVEX_Vpshrdq_ymm_k1z_ymm_ymmm256b64_imm8, 256, .YMM, .Packed256_UInt64, some (.Broadcast256_UInt64, 8)),
   (Instr.EVEX_Vpshrdq_zmm_k1z_zmm_zmmm512b64_imm8, .EVEX_Vpshrdq_zmm_k1z_zmm_zmmm512b64_imm8, 512, .ZMM, .Packed512_UInt64, some (.Broadcast512_UInt64, 8))]

/-- R140: one row of the first-level table: space, map, mandatory prefix, opcode, whether ModRM follows, and the families:
reg digit, W, Codes. -/
structure Entry where
  space : TableSpace
  map : OpMap
  mp : Mp
  opc : Byte
  modrm : Bool
  families : List (Option (BitVec 3) × WSel × List Code)
  deriving DecidableEq, Repr

/-- R140: rows 1 to 10 of the first-level table. -/
def firstLevel0 : List Entry :=
  [⟨.Legacy, .m0F, .NP, 0x70, true,
     [(none, .WIG, [.Pshufw_mm_mmm64_imm8])]⟩,
   ⟨.Legacy, .m0F, .P66, 0x70, true,
     [(none, .WIG, [.Pshufd_xmm_xmmm128_imm8])]⟩,
   ⟨.Legacy, .m0F, .PF3, 0x70, true,
     [(none, .WIG, [.Pshufhw_xmm_xmmm128_imm8])]⟩,
   ⟨.Legacy, .m0F, .PF2, 0x70, true,
     [(none, .WIG, [.Pshuflw_xmm_xmmm128_imm8])]⟩,
   ⟨.Legacy, .m0F, .NP, 0x71, true,
     [(some 2, .WIG, [.Psrlw_mm_imm8]),
      (some 4, .WIG, [.Psraw_mm_imm8]),
      (some 6, .WIG, [.Psllw_mm_imm8])]⟩,
   ⟨.Legacy, .m0F, .P66, 0x71, true,
     [(some 2, .WIG, [.Psrlw_xmm_imm8]),
      (some 4, .WIG, [.Psraw_xmm_imm8]),
      (some 6, .WIG, [.Psllw_xmm_imm8])]⟩,
   ⟨.Legacy, .m0F, .NP, 0x72, true,
     [(some 2, .WIG, [.Psrld_mm_imm8]),
      (some 4, .WIG, [.Psrad_mm_imm8]),
      (some 6, .WIG, [.Pslld_mm_imm8])]⟩,
   ⟨.Legacy, .m0F, .P66, 0x72, true,
     [(some 2, .WIG, [.Psrld_xmm_imm8]),
      (some 4, .WIG, [.Psrad_xmm_imm8]),
      (some 6, .WIG, [.Pslld_xmm_imm8])]⟩,
   ⟨.Legacy, .m0F, .NP, 0x73, true,
     [(some 2, .WIG, [.Psrlq_mm_imm8]),
      (some 6, .WIG, [.Psllq_mm_imm8])]⟩,
   ⟨.Legacy, .m0F, .P66, 0x73, true,
     [(some 2, .WIG, [.Psrlq_xmm_imm8]),
      (some 3, .WIG, [.Psrldq_xmm_imm8]),
      (some 6, .WIG, [.Psllq_xmm_imm8]),
      (some 7, .WIG, [.Pslldq_xmm_imm8])]⟩]

/-- R140: rows 11 to 20 of the first-level table. -/
def firstLevel1 : List Entry :=
  [⟨.Legacy, .m0F, .NP, 0x74, true,
     [(none, .WIG, [.Pcmpeqb_mm_mmm64])]⟩,
   ⟨.Legacy, .m0F, .P66, 0x74, true,
     [(none, .WIG, [.Pcmpeqb_xmm_xmmm128])]⟩,
   ⟨.Legacy, .m0F, .NP, 0x75, true,
     [(none, .WIG, [.Pcmpeqw_mm_mmm64])]⟩,
   ⟨.Legacy, .m0F, .P66, 0x75, true,
     [(none, .WIG, [.Pcmpeqw_xmm_xmmm128])]⟩,
   ⟨.Legacy, .m0F, .NP, 0x76, true,
     [(none, .WIG, [.Pcmpeqd_mm_mmm64])]⟩,
   ⟨.Legacy, .m0F, .P66, 0x76, true,
     [(none, .WIG, [.Pcmpeqd_xmm_xmmm128])]⟩,
   ⟨.Legacy, .m0F, .NP, 0x77, false,
     [(none, .WIG, [.Emms])]⟩,
   ⟨.VEX, .m0F, .P66, 0x70, true,
     [(none, .WIG, [.VEX_Vpshufd_xmm_xmmm128_imm8, .VEX_Vpshufd_ymm_ymmm256_imm8])]⟩,
   ⟨.VEX, .m0F, .PF3, 0x70, true,
     [(none, .WIG, [.VEX_Vpshufhw_xmm_xmmm128_imm8, .VEX_Vpshufhw_ymm_ymmm256_imm8])]⟩,
   ⟨.VEX, .m0F, .PF2, 0x70, true,
     [(none, .WIG, [.VEX_Vpshuflw_xmm_xmmm128_imm8, .VEX_Vpshuflw_ymm_ymmm256_imm8])]⟩]

/-- R140: rows 21 to 30 of the first-level table. -/
def firstLevel2 : List Entry :=
  [⟨.VEX, .m0F, .P66, 0x71, true,
     [(some 2, .WIG, [.VEX_Vpsrlw_xmm_xmm_imm8, .VEX_Vpsrlw_ymm_ymm_imm8]),
      (some 4, .WIG, [.VEX_Vpsraw_xmm_xmm_imm8, .VEX_Vpsraw_ymm_ymm_imm8]),
      (some 6, .WIG, [.VEX_Vpsllw_xmm_xmm_imm8, .VEX_Vpsllw_ymm_ymm_imm8])]⟩,
   ⟨.VEX, .m0F, .P66, 0x72, true,
     [(some 2, .WIG, [.VEX_Vpsrld_xmm_xmm_imm8, .VEX_Vpsrld_ymm_ymm_imm8]),
      (some 4, .WIG, [.VEX_Vpsrad_xmm_xmm_imm8, .VEX_Vpsrad_ymm_ymm_imm8]),
      (some 6, .WIG, [.VEX_Vpslld_xmm_xmm_imm8, .VEX_Vpslld_ymm_ymm_imm8])]⟩,
   ⟨.VEX, .m0F, .P66, 0x73, true,
     [(some 2, .WIG, [.VEX_Vpsrlq_xmm_xmm_imm8, .VEX_Vpsrlq_ymm_ymm_imm8]),
      (some 3, .WIG, [.VEX_Vpsrldq_xmm_xmm_imm8, .VEX_Vpsrldq_ymm_ymm_imm8]),
      (some 6, .WIG, [.VEX_Vpsllq_xmm_xmm_imm8, .VEX_Vpsllq_ymm_ymm_imm8]),
      (some 7, .WIG, [.VEX_Vpslldq_xmm_xmm_imm8, .VEX_Vpslldq_ymm_ymm_imm8])]⟩,
   ⟨.VEX, .m0F, .P66, 0x74, true,
     [(none, .WIG, [.VEX_Vpcmpeqb_xmm_xmm_xmmm128, .VEX_Vpcmpeqb_ymm_ymm_ymmm256])]⟩,
   ⟨.VEX, .m0F, .P66, 0x75, true,
     [(none, .WIG, [.VEX_Vpcmpeqw_xmm_xmm_xmmm128, .VEX_Vpcmpeqw_ymm_ymm_ymmm256])]⟩,
   ⟨.VEX, .m0F, .P66, 0x76, true,
     [(none, .WIG, [.VEX_Vpcmpeqd_xmm_xmm_xmmm128, .VEX_Vpcmpeqd_ymm_ymm_ymmm256])]⟩,
   ⟨.VEX, .m0F, .NP, 0x77, false,
     [(none, .WIG, [.VEX_Vzeroupper, .VEX_Vzeroall])]⟩,
   ⟨.EVEX, .m0F, .P66, 0x70, true,
     [(none, .W0, [.EVEX_Vpshufd_xmm_k1z_xmmm128b32_imm8, .EVEX_Vpshufd_ymm_k1z_ymmm256b32_imm8, .EVEX_Vpshufd_zmm_k1z_zmmm512b32_imm8])]⟩,
   ⟨.EVEX, .m0F, .PF3, 0x70, true,
     [(none, .WIG, [.EVEX_Vpshufhw_xmm_k1z_xmmm128_imm8, .EVEX_Vpshufhw_ymm_k1z_ymmm256_imm8, .EVEX_Vpshufhw_zmm_k1z_zmmm512_imm8])]⟩,
   ⟨.EVEX, .m0F, .PF2, 0x70, true,
     [(none, .WIG, [.EVEX_Vpshuflw_xmm_k1z_xmmm128_imm8, .EVEX_Vpshuflw_ymm_k1z_ymmm256_imm8, .EVEX_Vpshuflw_zmm_k1z_zmmm512_imm8])]⟩]

/-- R140: rows 31 to 40 of the first-level table. -/
def firstLevel3 : List Entry :=
  [⟨.EVEX, .m0F, .P66, 0x71, true,
     [(some 2, .WIG, [.EVEX_Vpsrlw_xmm_k1z_xmmm128_imm8, .EVEX_Vpsrlw_ymm_k1z_ymmm256_imm8, .EVEX_Vpsrlw_zmm_k1z_zmmm512_imm8]),
      (some 4, .WIG, [.EVEX_Vpsraw_xmm_k1z_xmmm128_imm8, .EVEX_Vpsraw_ymm_k1z_ymmm256_imm8, .EVEX_Vpsraw_zmm_k1z_zmmm512_imm8]),
      (some 6, .WIG, [.EVEX_Vpsllw_xmm_k1z_xmmm128_imm8, .EVEX_Vpsllw_ymm_k1z_ymmm256_imm8, .EVEX_Vpsllw_zmm_k1z_zmmm512_imm8])]⟩,
   ⟨.EVEX, .m0F, .P66, 0x72, true,
     [(some 0, .W0, [.EVEX_Vprord_xmm_k1z_xmmm128b32_imm8, .EVEX_Vprord_ymm_k1z_ymmm256b32_imm8, .EVEX_Vprord_zmm_k1z_zmmm512b32_imm8]),
      (some 0, .W1, [.EVEX_Vprorq_xmm_k1z_xmmm128b64_imm8, .EVEX_Vprorq_ymm_k1z_ymmm256b64_imm8, .EVEX_Vprorq_zmm_k1z_zmmm512b64_imm8]),
      (some 1, .W0, [.EVEX_Vprold_xmm_k1z_xmmm128b32_imm8, .EVEX_Vprold_ymm_k1z_ymmm256b32_imm8, .EVEX_Vprold_zmm_k1z_zmmm512b32_imm8]),
      (some 1, .W1, [.EVEX_Vprolq_xmm_k1z_xmmm128b64_imm8, .EVEX_Vprolq_ymm_k1z_ymmm256b64_imm8, .EVEX_Vprolq_zmm_k1z_zmmm512b64_imm8]),
      (some 2, .W0, [.EVEX_Vpsrld_xmm_k1z_xmmm128b32_imm8, .EVEX_Vpsrld_ymm_k1z_ymmm256b32_imm8, .EVEX_Vpsrld_zmm_k1z_zmmm512b32_imm8]),
      (some 4, .W0, [.EVEX_Vpsrad_xmm_k1z_xmmm128b32_imm8, .EVEX_Vpsrad_ymm_k1z_ymmm256b32_imm8, .EVEX_Vpsrad_zmm_k1z_zmmm512b32_imm8]),
      (some 4, .W1, [.EVEX_Vpsraq_xmm_k1z_xmmm128b64_imm8, .EVEX_Vpsraq_ymm_k1z_ymmm256b64_imm8, .EVEX_Vpsraq_zmm_k1z_zmmm512b64_imm8]),
      (some 6, .W0, [.EVEX_Vpslld_xmm_k1z_xmmm128b32_imm8, .EVEX_Vpslld_ymm_k1z_ymmm256b32_imm8, .EVEX_Vpslld_zmm_k1z_zmmm512b32_imm8])]⟩,
   ⟨.EVEX, .m0F, .P66, 0x73, true,
     [(some 2, .W1, [.EVEX_Vpsrlq_xmm_k1z_xmmm128b64_imm8, .EVEX_Vpsrlq_ymm_k1z_ymmm256b64_imm8, .EVEX_Vpsrlq_zmm_k1z_zmmm512b64_imm8]),
      (some 3, .WIG, [.EVEX_Vpsrldq_xmm_xmmm128_imm8, .EVEX_Vpsrldq_ymm_ymmm256_imm8, .EVEX_Vpsrldq_zmm_zmmm512_imm8]),
      (some 6, .W1, [.EVEX_Vpsllq_xmm_k1z_xmmm128b64_imm8, .EVEX_Vpsllq_ymm_k1z_ymmm256b64_imm8, .EVEX_Vpsllq_zmm_k1z_zmmm512b64_imm8]),
      (some 7, .WIG, [.EVEX_Vpslldq_xmm_xmmm128_imm8, .EVEX_Vpslldq_ymm_ymmm256_imm8, .EVEX_Vpslldq_zmm_zmmm512_imm8])]⟩,
   ⟨.EVEX, .m0F, .P66, 0x74, true,
     [(none, .WIG, [.EVEX_Vpcmpeqb_kr_k1_xmm_xmmm128, .EVEX_Vpcmpeqb_kr_k1_ymm_ymmm256, .EVEX_Vpcmpeqb_kr_k1_zmm_zmmm512])]⟩,
   ⟨.EVEX, .m0F, .P66, 0x75, true,
     [(none, .WIG, [.EVEX_Vpcmpeqw_kr_k1_xmm_xmmm128, .EVEX_Vpcmpeqw_kr_k1_ymm_ymmm256, .EVEX_Vpcmpeqw_kr_k1_zmm_zmmm512])]⟩,
   ⟨.EVEX, .m0F, .P66, 0x76, true,
     [(none, .W0, [.EVEX_Vpcmpeqd_kr_k1_xmm_xmmm128b32, .EVEX_Vpcmpeqd_kr_k1_ymm_ymmm256b32, .EVEX_Vpcmpeqd_kr_k1_zmm_zmmm512b32])]⟩,
   ⟨.EVEX, .m0F3A, .P66, 0x70, true,
     [(none, .W1, [.EVEX_Vpshldw_xmm_k1z_xmm_xmmm128_imm8, .EVEX_Vpshldw_ymm_k1z_ymm_ymmm256_imm8, .EVEX_Vpshldw_zmm_k1z_zmm_zmmm512_imm8])]⟩,
   ⟨.EVEX, .m0F3A, .P66, 0x71, true,
     [(none, .W0, [.EVEX_Vpshldd_xmm_k1z_xmm_xmmm128b32_imm8, .EVEX_Vpshldd_ymm_k1z_ymm_ymmm256b32_imm8, .EVEX_Vpshldd_zmm_k1z_zmm_zmmm512b32_imm8]),
      (none, .W1, [.EVEX_Vpshldq_xmm_k1z_xmm_xmmm128b64_imm8, .EVEX_Vpshldq_ymm_k1z_ymm_ymmm256b64_imm8, .EVEX_Vpshldq_zmm_k1z_zmm_zmmm512b64_imm8])]⟩,
   ⟨.EVEX, .m0F3A, .P66, 0x72, true,
     [(none, .W1, [.EVEX_Vpshrdw_xmm_k1z_xmm_xmmm128_imm8, .EVEX_Vpshrdw_ymm_k1z_ymm_ymmm256_imm8, .EVEX_Vpshrdw_zmm_k1z_zmm_zmmm512_imm8])]⟩,
   ⟨.EVEX, .m0F3A, .P66, 0x73, true,
     [(none, .W0, [.EVEX_Vpshrdd_xmm_k1z_xmm_xmmm128b32_imm8, .EVEX_Vpshrdd_ymm_k1z_ymm_ymmm256b32_imm8, .EVEX_Vpshrdd_zmm_k1z_zmm_zmmm512b32_imm8]),
      (none, .W1, [.EVEX_Vpshrdq_xmm_k1z_xmm_xmmm128b64_imm8, .EVEX_Vpshrdq_ymm_k1z_ymm_ymmm256b64_imm8, .EVEX_Vpshrdq_zmm_k1z_zmm_zmmm512b64_imm8])]⟩]

/-- R140: the first-level table. -/
def firstLevel : List Entry := firstLevel0 ++ firstLevel1 ++ firstLevel2 ++ firstLevel3

/-! ### Bytes -/

/-- R71: the legacy prefix bytes. -/
def prefixBytes : List Byte := [0x26, 0x2E, 0x36, 0x3E, 0x64, 0x65, 0x66, 0x67, 0xF0, 0xF2, 0xF3]

/-- R110: the legacy prefix bytes that may stand before an escape. -/
def freeBytes : List Byte := [0x26, 0x2E, 0x36, 0x3E, 0x64, 0x65, 0x67]

/-- R110: those that may not. -/
def barredBytes : List Byte := [0x66, 0xF0, 0xF2, 0xF3]

/-- R106: the escape bytes. -/
def escapes : List Byte := [0xC4, 0xC5, 0x62]

/-- R103: a byte 40 to 4F. -/
def isRex4 (b : Byte) : Prop := b.toNat / 16 = 4

/-- R107: bits [7:6] of a byte are 11. -/
def topSet (b : Byte) : Prop := b.toNat / 64 = 3

/-- R71: which segment a segment-prefix byte names. -/
def segments : List (Byte × SegReg) :=
  [(0x26, .ES), (0x2E, .CS), (0x36, .SS), (0x3E, .DS), (0x64, .FS), (0x65, .GS)]

/-- R71: the repeat-prefix bytes. -/
def repeats : List (Byte × Rep) := [(0xF2, .F2), (0xF3, .F3)]

/-- R102: what the last byte of `pre` that stands in table `t` names. -/
def lastOf {α : Type} (t : List (Byte × α)) (pre : List Byte) : Option α :=
  (pre.filterMap fun b => t.lookup b).getLast?

/-- R102: the prefix state after the legacy prefix bytes `pre`. -/
def scanned (pre : List Byte) : PrefixState :=
  { PrefixState.initial with
    seg := lastOf segments pre
    opsize := decide ((0x66 : Byte) ∈ pre)
    adsize := decide ((0x67 : Byte) ∈ pre)
    lock := decide ((0xF0 : Byte) ∈ pre)
    rep := lastOf repeats pre }

/-- The registers when the prefix loop ends: `n` bytes read, prefix state `ps`, first other byte `b`. -/
def loopEnd (n : Nat) (ps : PrefixState) (b : Byte) : Dec Regs :=
  .ok { Regs.initial with pos := Fin.ofNat 16 n, ps := ps, b0 := some b }

/-- R81: the mandatory prefix of two bits. -/
def ppOf (n : Nat) : Mp := if n = 0 then .NP else if n = 1 then .P66 else if n = 2 then .PF3 else .PF2

/-- R113, R116: the map of a field value. -/
def mapOf (n : Nat) : Option OpMap :=
  if n = 1 then some .m0F else if n = 2 then some .m0F38 else if n = 3 then some .m0F3A else none

/-- R111, R117, R119: the prefix state after the VEX2 payload byte `p1`. -/
def afterVex2 (bt : Bitness) (p1 : Nat) (ps : PrefixState) : PrefixState :=
  { ps with
    space := .VEX2, R := in64 bt (decide (p1 / 128 = 0)), X := false, B := false, W := false
    Rp := in64 bt ps.Rp, Vp := in64 bt ps.Vp, VpRaw := ps.Vp
    vvvvRaw := BitVec.ofNat 4 (15 - p1 / 8 % 16)
    vvvv := BitVec.ofNat 4 (if bt = .b64 then 15 - p1 / 8 % 16 else (15 - p1 / 8 % 16) % 8)
    L := decide (p1 / 4 % 2 = 1), pp := BitVec.ofNat 2 (p1 % 4), mp := ppOf (p1 % 4), map := some .m0F }

/-- R112, R117, R119: the prefix state after the VEX3 payload bytes `p1`, `p2`, of map `m`. -/
def afterVex3 (bt : Bitness) (p1 p2 : Nat) (m : OpMap) (ps : PrefixState) : PrefixState :=
  { ps with
    space := .VEX3, R := in64 bt (decide (p1 / 128 = 0)), X := in64 bt (decide (p1 / 64 % 2 = 0))
    B := in64 bt (decide (p1 / 32 % 2 = 0)), W := decide (p2 / 128 = 1)
    Rp := in64 bt ps.Rp, Vp := in64 bt ps.Vp, VpRaw := ps.Vp
    vvvvRaw := BitVec.ofNat 4 (15 - p2 / 8 % 16)
    vvvv := BitVec.ofNat 4 (if bt = .b64 then 15 - p2 / 8 % 16 else (15 - p2 / 8 % 16) % 8)
    L := decide (p2 / 4 % 2 = 1), pp := BitVec.ofNat 2 (p2 % 4), mp := ppOf (p2 % 4), map := some m }

/-- R114, R117, R119: the prefix state after the EVEX payload bytes `P0`, `P1`, `P2`, of map `m`. -/
def afterEvex (bt : Bitness) (P0 P1 P2 : Nat) (m : OpMap) (ps : PrefixState) : PrefixState :=
  { ps with
    space := .EVEX, R := in64 bt (decide (P0 / 128 = 0)), X := in64 bt (decide (P0 / 64 % 2 = 0))
    B := in64 bt (decide (P0 / 32 % 2 = 0)), Rp := in64 bt (decide (P0 / 16 % 2 = 0))
    W := decide (P1 / 128 = 1), Vp := in64 bt (decide (P2 / 8 % 2 = 0)), VpRaw := decide (P2 / 8 % 2 = 0)
    vvvvRaw := BitVec.ofNat 4 (15 - P1 / 8 % 16)
    vvvv := BitVec.ofNat 4 (if bt = .b64 then 15 - P1 / 8 % 16 else (15 - P1 / 8 % 16) % 8)
    LL := BitVec.ofNat 2 (P2 / 32 % 4), pp := BitVec.ofNat 2 (P1 % 4), mp := ppOf (P1 % 4), map := some m
    z := decide (P2 / 128 = 1), b := decide (P2 / 16 % 2 = 1), aaa := BitVec.ofNat 3 (P2 % 8) }

/-- R57, R162: the signed value of `size` bytes, least significant first. -/
def signedLE (bs : List Byte) : Int :=
  let v : Nat := bs.foldr (fun b acc => b.toNat + 256 * acc) 0
  if bs = [] then 0
  else if 2 * v < 256 ^ bs.length then v else (v : Int) - 256 ^ bs.length

/-- R25: the initial prefix state, field by field. -/
def firstPs : PrefixState :=
  { seg := none, opsize := false, adsize := false, lock := false, rep := none, rex := none, space := .Legacy,
    W := false, R := false, X := false, B := false, Rp := false, Vp := false, vvvv := 0, vvvvRaw := 0, VpRaw := false,
    L := false, LL := 0, pp := 0, z := false, b := false, aaa := 0, map := none, mp := .NP }

/-- R48: the initial registers, one by one. -/
def firstRegs : Regs :=
  { pos := 0, ps := firstPs, b0 := none, opc := none, entry := none, fam := none, modrm := none, sib := none,
    dispRaw := 0, dispSize := 0, imm := none, md := none }

end Sys2Proof.Spec

open Sys2Proof Sys2Proof.Machine Sys2Proof.Spec

/-! ### The transaction -/

/-- R48: the initial value of every internal register at reset, of each block instance and of a block in use, and at the
start of a transaction (the state `Start`); `avail` is what the inputs give (R24), which at `State.reset` and
`State.resetOf` are those of assumption 2; `result` is not read. -/
def Obligations.ResetAndStartInitialiseRegisters : Prop :=
  State.reset.fsm = .Start ∧ State.reset.regs = firstRegs ∧ State.reset.vf = legacyVf ∧
  State.reset.avail = State.reset.window.length ∧
  (∀ order : RexOrder,
    (State.resetOf order).fsm = .Start ∧ (State.resetOf order).regs = firstRegs ∧ (State.resetOf order).vf = legacyVf ∧
    (State.resetOf order).avail = (State.resetOf order).window.length) ∧
  ∀ s : State,
    s.assertReset.fsm = .Start ∧ s.assertReset.regs = firstRegs ∧ s.assertReset.vf = legacyVf ∧
    s.assertReset.avail = s.window.length ∧
    fsmStep { s with fsm := .Start } = .next s.begin ∧
    (∀ x : DecodeResult, step { s with result := x } = step s) ∧
    s.begin.regs = firstRegs ∧ s.begin.vf = legacyVf ∧ s.begin.avail = s.window.length ∧
    (s.buffer.wf = true →
      s.begin.avail = if s.startOffset ≤ s.buffer.length then s.buffer.length - s.startOffset else 0)

/-- R22, R210, R222: a step decodes the window and runs the decoded instruction's meaning in the state whose registers are
what the decoder left; a raise of the decoder ends the transaction with its error. One step is one transaction
(assumption 4). -/
def Obligations.StepRunsDecodedInstruction : Prop :=
  ∀ s : State,
    (∀ (i : Instr) (r : Regs), decode s.rexOrder s.bitness s.window = .ok (i, r) →
      step s = exec i
        { s with
          fsm := if r.ps.space = .Legacy then .Assemble else .VectorFieldDecode
          avail := s.window.length, regs := r, vf := legacyVf }) ∧
    (∀ st : Stop, decode s.rexOrder s.bitness s.window = .error st →
      step s = .next
        { s with fsm := .Error st.err, avail := s.window.length, regs := st.regs, vf := legacyVf, result := .Err st.err })

/-- R20, R21, R51, R500: every transaction ends, in `Done` with `Ok` or in `Error` with `Err`, and leaves its inputs as they
are. That one step is one transaction is the model's choice (assumption 4); that it leaves `start_offset` and `P_REX_ORDER`
as they are is inferred (assumptions 12 and 1). -/
def Obligations.StepEndsAndKeepsInputs : Prop :=
  ∀ s : State, ∃ t : State, step s = .next t ∧
    ((∃ insn, t.fsm = .Done ∧ t.result = .Ok insn) ∨ (∃ e, t.fsm = .Error e ∧ t.result = .Err e)) ∧
    t.buffer = s.buffer ∧ t.startOffset = s.startOffset ∧ t.bitness = s.bitness ∧ t.rexOrder = s.rexOrder ∧
    (∀ a, t.buffer.read a = s.buffer.read a)

/-- R22, R527: a transaction depends on its inputs alone, on no register that an earlier one left. -/
def Obligations.StepDependsOnInputsOnly : Prop :=
  ∀ s t : State, s.buffer = t.buffer → s.startOffset = t.startOffset → s.bitness = t.bitness →
    s.rexOrder = t.rexOrder → step s = step t

/-- R220: the result is a function of the first 15 bytes of the window (and of where the window ends before them), the
bitness and `P_REX_ORDER`. It is derived in the spec from R210 and R22 (assumption 6). -/
def Obligations.FirstFifteenBytesDecideResult : Prop :=
  ∀ s t s' t' : State, s.bitness = t.bitness → s.rexOrder = t.rexOrder → s.window.take 15 = t.window.take 15 →
    step s = .next s' → step t = .next t' → s'.result = t'.result

/-- R221: bytes appended to the window change no result but `UnexpectedEof`, which they may change; a successful decode
depends on no byte from `ByteLength` on. It is derived in the spec from R53 to R55 (assumption 6). -/
def Obligations.AppendedBytesKeepResult : Prop :=
  (∀ (s t s' : State) (suffix : List Byte), s.bitness = t.bitness → s.rexOrder = t.rexOrder →
    t.window = s.window ++ suffix → step s = .next s' → s'.result ≠ .Err .UnexpectedEof →
    ∃ t', step t = .next t' ∧ t'.result = s'.result) ∧
  (∀ (s t s' : State) (insn : Instruction), s.bitness = t.bitness → s.rexOrder = t.rexOrder →
    step s = .next s' → s'.result = .Ok insn → t.window.take insn.byteLength.val = s.window.take insn.byteLength.val →
    ∃ t', step t = .next t' ∧ t'.result = .Ok insn) ∧
  (∃ (s t s' t' : State) (suffix : List Byte), s.bitness = t.bitness ∧ s.rexOrder = t.rexOrder ∧
    t.window = s.window ++ suffix ∧ step s = .next s' ∧ s'.result = .Err .UnexpectedEof ∧
    step t = .next t' ∧ t'.result ≠ .Err .UnexpectedEof)

/-- R210: the state machine of one step per FSM state, started at `Start`, has ended after six states, in the state that
`step` gives. -/
def Obligations.StateMachineRefinesStep : Prop :=
  ∀ s : State, fsmRun 6 { s with fsm := .Start } = step s

/-- A step keeps the invariant: a canonical buffer, registers in range, a sound result. -/
def Obligations.StepKeepsInvariant : Prop :=
  ∀ s t : State, s.Inv → step s = .next t → t.Inv

/-- R520, R521: the invariant holds at reset, of each block instance and of a block in use, and reset changes neither
`P_REX_ORDER` nor the inputs. The buffer at `State.reset` and `State.resetOf`, and the result at reset, are the model's
choice (assumptions 2 and 3); `State.reset` is the default instance's (assumption 1). -/
def Obligations.ResetSatisfiesInvariant : Prop :=
  State.reset.Inv ∧ State.reset = State.resetOf .Architectural ∧
  (∀ order : RexOrder, (State.resetOf order).Inv ∧ (State.resetOf order).rexOrder = order) ∧
  ∀ s : State,
    (s.buffer.wf = true → s.assertReset.Inv) ∧ s.assertReset.rexOrder = s.rexOrder ∧
    s.assertReset.buffer = s.buffer ∧ s.assertReset.startOffset = s.startOffset ∧ s.assertReset.bitness = s.bitness

/-- R217: what holds of every `Ok` result. It is derived in the spec from R212 to R216, with R120, R121 and R186
(assumption 6). -/
def Obligations.OkRecordsAreSound : Prop :=
  ∀ (s t : State) (r : Instruction), step s = .next t → t.result = .Ok r →
    1 ≤ r.byteLength.val ∧ r.byteLength.val ≤ 15 ∧ r.byteLength = t.regs.pos ∧
    r.opCount ≤ 4 ∧ descriptorMatches r = true ∧
    (r.ops.filter fun o => decide (o.kind = .Memory)).length ≤ 1 ∧
    (∀ o ∈ r.ops.take r.opCount, o.kind = .Register ↔ o.register ≠ none) ∧
    (r.opMask = none → r.zeroingMasking = false) ∧
    r.roundingControl = .None ∧ r.suppressAllExceptions = false ∧
    (∀ m, t.regs.md = some m → m.as = .a16 → r.memoryIndexScale = 1) ∧
    r.memoryDisplSize ∈ [0, 1, 2, 4] ∧
    r.hasRepePrefix = false ∧ r.hasRepnePrefix = false ∧ r.hasLockPrefix = false

/-- R212: `ByteLength` is the number of bytes the cursor advanced, 2 to 15 of them, all in the window; the shortest is
`0F 77`; the caller's next offset after `Ok` is past them. -/
def Obligations.ByteLengthIsBytesConsumed : Prop :=
  (∀ (s t : State) (r : Instruction), step s = .next t → t.result = .Ok r →
    r.byteLength = t.regs.pos ∧ 2 ≤ r.byteLength.val ∧ r.byteLength.val ≤ 15 ∧ r.byteLength.val ≤ s.window.length ∧
    (r.byteLength = 2 → s.window.take 2 = [0x0F, 0x77]) ∧
    ∀ skip, (t.advance skip).startOffset = s.startOffset + r.byteLength.val) ∧
  ∀ (s : State) (rest : List Byte), s.window = 0x0F :: 0x77 :: rest →
    ∃ t r, step s = .next t ∧ t.result = .Ok r ∧ r.byteLength = 2

/-- R117, R160, R194: outside 64-bit bitness a record names no register above index 7 and no RIP or EIP base. It rests on
the spec's own choices D11, D16, D25 (assumption 6). -/
def Obligations.NoExtendedRegistersOutside64 : Prop :=
  ∀ (s t : State) (r : Instruction), s.bitness ≠ .b64 → step s = .next t → t.result = .Ok r →
    (∀ o ∈ r.ops, ∀ x, o.register = some x → index x < 8) ∧
    (∀ x, r.memoryBase = some x → index x < 8 ∧ x ≠ .rip ∧ x ≠ .eip) ∧
    (∀ x, r.memoryIndex = some x → index x < 8)

/-! ### The cursor, the prefixes, the payloads -/

/-- R52: the window is the buffer from `start_offset` on: byte `i` of it, for `i` below `avail`, is the byte at
`start_offset + i`; there is none from `avail` on. -/
def Obligations.WindowIsBufferFromStartOffset : Prop :=
  ∀ (s : State) (i : Nat), s.buffer.wf = true →
    (i < s.begin.avail → s.window[i]? = s.buffer.read (s.startOffset + i) ∧ s.window[i]? ≠ none) ∧
    (s.begin.avail ≤ i → s.window[i]? = none)

/-- R53: `ReadByte`. -/
def Obligations.ReadByteFollowsCursor : Prop :=
  ∀ (w : List Byte) (r : Regs),
    (15 ≤ r.pos.val → readByte w r = .error { err := .InstructionTooLong, regs := r }) ∧
    (r.pos.val < 15 → w.length ≤ r.pos.val → readByte w r = .error { err := .UnexpectedEof, regs := r }) ∧
    (∀ h : r.pos.val < w.length, r.pos.val < 15 →
      ∃ r' : Regs, readByte w r = .ok (w[r.pos.val], r') ∧ r' = { r with pos := r'.pos } ∧ r'.pos.val = r.pos.val + 1)

/-- R102: legacy prefix bytes in any order: the last of each category counts. Fifteen of them leave no room for an
instruction (R101). It rests on the spec's own choice D4 (assumption 6). -/
def Obligations.LastOfEachPrefixCategoryCounts : Prop :=
  ∀ (order : RexOrder) (bt : Bitness) (pre rest : List Byte), (∀ x ∈ pre, x ∈ prefixBytes) →
    (∀ b0, pre.length ≤ 14 → b0 ∉ prefixBytes → (bt = .b64 → ¬ isRex4 b0) →
      prefixLoop order bt (pre ++ b0 :: rest) (Config.maxLen + 1) Regs.initial =
        loopEnd (pre.length + 1) (scanned pre) b0) ∧
    (pre.length = 15 → decodeErr order bt (pre ++ rest) = some .InstructionTooLong)

/-- R103: the REX byte under both settings of `P_REX_ORDER`. It rests on the spec's own choice D3 (assumption 6). -/
def Obligations.RexByteFollowsParameter : Prop :=
  ∀ (pre rest : List Byte) (rex : Byte), (∀ x ∈ pre, x ∈ prefixBytes) → isRex4 rex →
    (∀ order b0, pre.length ≤ 13 → b0 ∉ prefixBytes → ¬ isRex4 b0 →
      prefixLoop order .b64 (pre ++ rex :: b0 :: rest) (Config.maxLen + 1) Regs.initial =
        loopEnd (pre.length + 2) { scanned pre with rex := some rex } b0) ∧
    (∀ post b0, (∀ x ∈ post, x ∈ prefixBytes) → post ≠ [] → pre.length + post.length ≤ 13 → b0 ∉ prefixBytes →
      ¬ isRex4 b0 →
      prefixLoop .Architectural .b64 (pre ++ rex :: (post ++ b0 :: rest)) (Config.maxLen + 1) Regs.initial =
        loopEnd (pre.length + post.length + 2) (scanned (pre ++ post)) b0) ∧
    (∀ rex2 b0, pre.length ≤ 12 → isRex4 rex2 → b0 ∉ prefixBytes → ¬ isRex4 b0 →
      prefixLoop .Architectural .b64 (pre ++ rex :: rex2 :: b0 :: rest) (Config.maxLen + 1) Regs.initial =
        loopEnd (pre.length + 3) { scanned pre with rex := some rex2 } b0) ∧
    (∀ b, pre.length ≤ 13 →
      prefixLoop .DocLiteral .b64 (pre ++ rex :: b :: rest) (Config.maxLen + 1) Regs.initial =
        loopEnd (pre.length + 2) { scanned pre with rex := some rex } b ∧
      (b ∈ prefixBytes ∨ isRex4 b →
        decodeErr .DocLiteral .b64 (pre ++ rex :: b :: rest) = some .UnknownOpcode))

/-- R104: the REX fields of a legacy instruction; the REX byte 40 sets no bit, and is consumed. -/
def Obligations.RexFieldsOfLegacyScan : Prop :=
  (∀ (order : RexOrder) (bt : Bitness) (w : List Byte) (r : Regs), prefixScan order bt w Regs.initial = .ok r →
    r.ps.space = .Legacy →
    ∀ x, r.ps.rex = some x →
      isRex4 x ∧ r.ps.W = decide (x.toNat / 8 % 2 = 1) ∧ r.ps.R = decide (x.toNat / 4 % 2 = 1) ∧
      r.ps.X = decide (x.toNat / 2 % 2 = 1) ∧ r.ps.B = decide (x.toNat % 2 = 1)) ∧
  ∀ (order : RexOrder) (rest : List Byte), ∃ r : Regs,
    prefixScan order .b64 (0x40 :: 0x0F :: rest) Regs.initial = .ok r ∧ r.pos = 2 ∧ r.ps.rex = some 0x40 ∧
    r.ps.W = false ∧ r.ps.R = false ∧ r.ps.X = false ∧ r.ps.B = false

/-- R118, R119: the mandatory prefix after a scan. It rests on the spec's own choice D5 (assumption 6). -/
def Obligations.MandatoryPrefixOfScan : Prop :=
  ∀ (order : RexOrder) (bt : Bitness) (w : List Byte) (r : Regs), prefixScan order bt w Regs.initial = .ok r →
    r.ps.mp =
      if r.ps.space = .Legacy then
        (if r.ps.rep = some .F2 then .PF2 else if r.ps.rep = some .F3 then .PF3 else if r.ps.opsize then .P66 else .NP)
      else ppOf r.ps.pp.toNat

/-- R111 to R114, R116, R117, R119: what each bit of a VEX2, VEX3 or EVEX payload becomes. It rests on the spec's own
choices D10, D11 (assumption 6). -/
def Obligations.PayloadBitsFillPrefixState : Prop :=
  ∀ (bt : Bitness) (w : List Byte) (r : Regs),
    (∀ p1, r.pos.val ≤ 14 → w[r.pos.val]? = some p1 →
      readVex2 bt w r = .ok { r with pos := r.pos + 1, ps := afterVex2 bt p1.toNat r.ps }) ∧
    (∀ p1 p2 m, r.pos.val ≤ 13 → w[r.pos.val]? = some p1 → w[r.pos.val + 1]? = some p2 →
      mapOf (p1.toNat % 32) = some m →
      readVex3 bt w r = .ok { r with pos := r.pos + 2, ps := afterVex3 bt p1.toNat p2.toNat m r.ps }) ∧
    (∀ P0 P1 P2 m, r.pos.val ≤ 12 → w[r.pos.val]? = some P0 → w[r.pos.val + 1]? = some P1 → w[r.pos.val + 2]? = some P2 →
      P0.toNat / 4 % 4 = 0 → P1.toNat / 4 % 2 = 1 → mapOf (P0.toNat % 4) = some m →
      readEvex bt w r = .ok { r with pos := r.pos + 3, ps := afterEvex bt P0.toNat P1.toNat P2.toNat m r.ps })

/-- R105: outside 64-bit bitness the bytes 40 to 4F are no prefixes. It is derived in the spec from R101 and R131
(assumption 6). -/
def Obligations.RexBytesAreUnknownOutside64 : Prop :=
  ∀ (order : RexOrder) (bt : Bitness) (pre rest : List Byte) (b : Byte), bt ≠ .b64 → (∀ x ∈ pre, x ∈ prefixBytes) →
    pre.length ≤ 14 → isRex4 b → decodeErr order bt (pre ++ b :: rest) = some .UnknownOpcode

/-- R107, R108, R131: a first byte that is neither 0F nor an escape, and an escape byte that the next byte denies outside
64-bit bitness, are one-byte opcodes, which have no row; the look-ahead raises the cursor errors. It rests on the spec's
own choices D1, D9 (assumption 6). -/
def Obligations.OneByteOpcodesAreUnknown : Prop :=
  ∀ (order : RexOrder) (bt : Bitness) (pre rest : List Byte) (b0 : Byte), (∀ x ∈ pre, x ∈ prefixBytes) →
    (pre.length ≤ 14 → b0 ∉ prefixBytes → b0 ∉ escapes → b0 ≠ 0x0F → (bt = .b64 → ¬ isRex4 b0) →
      decodeErr order bt (pre ++ b0 :: rest) = some .UnknownOpcode) ∧
    (∀ p, pre.length ≤ 13 → bt ≠ .b64 → b0 ∈ escapes → ¬ topSet p →
      decodeErr order bt (pre ++ b0 :: p :: rest) = some .UnknownOpcode) ∧
    (pre.length ≤ 13 → bt ≠ .b64 → b0 ∈ escapes → decodeErr order bt (pre ++ [b0]) = some .UnexpectedEof) ∧
    (pre.length = 14 → bt ≠ .b64 → b0 ∈ escapes →
      decodeErr order bt (pre ++ b0 :: rest) = some .InstructionTooLong)

/-- R109, R110: 66, F0, F2, F3 or a REX byte before an escape is refused before any payload byte is read. It rests on the
spec's own choice D8 (assumption 6). -/
def Obligations.BarredPrefixBeforeEscapeRaises : Prop :=
  ∀ (order : RexOrder) (bt : Bitness) (pre rest : List Byte) (esc : Byte), (∀ x ∈ pre, x ∈ prefixBytes) →
    esc ∈ escapes →
    (pre.length ≤ 14 → bt = .b64 → (∃ x ∈ pre, x ∈ barredBytes) →
      decodeErr order bt (pre ++ esc :: rest) = some .InvalidVexEvexEncoding) ∧
    (∀ p, pre.length ≤ 13 → bt ≠ .b64 → topSet p → (∃ x ∈ pre, x ∈ barredBytes) →
      decodeErr order bt (pre ++ esc :: p :: rest) = some .InvalidVexEvexEncoding) ∧
    (∀ rex, pre.length ≤ 13 → bt = .b64 → isRex4 rex →
      decodeErr order bt (pre ++ rex :: esc :: rest) = some .InvalidVexEvexEncoding)

/-- R113, R115, R116: reserved payload patterns are refused once the payload is read. It rests on the spec's own choice D10
(assumption 6). -/
def Obligations.ReservedPayloadsRaise : Prop :=
  ∀ (order : RexOrder) (bt : Bitness) (pre rest : List Byte), (∀ x ∈ pre, x ∈ freeBytes) →
    (∀ p1 p2 : Byte, pre.length ≤ 12 → (bt = .b64 ∨ topSet p1) → mapOf (p1.toNat % 32) = none →
      decodeErr order bt (pre ++ 0xC4 :: p1 :: p2 :: rest) = some .InvalidVexEvexEncoding) ∧
    (∀ P0 P1 P2 : Byte, pre.length ≤ 11 → (bt = .b64 ∨ topSet P0) →
      (P0.toNat / 4 % 4 ≠ 0 ∨ P1.toNat / 4 % 2 = 0 ∨ P0.toNat % 4 = 0) →
      decodeErr order bt (pre ++ 0x62 :: P0 :: P1 :: P2 :: rest) = some .InvalidVexEvexEncoding)

/-! ### The opcode table -/

/-- R140: the first-level table, all 40 entries: a key has a row exactly where it stands in the table, and its rows are
those of its families, with their digits and W. It rests on the spec's own choice D1 (assumption 6). -/
def Obligations.FirstLevelTable : Prop :=
  (∀ sp m mp o, lookup sp m mp o ≠ [] ↔
    ∃ e ∈ firstLevel, e.space = sp ∧ e.map = m ∧ e.mp = mp ∧ e.opc = o) ∧
  ∀ e ∈ firstLevel,
    needsModRM (lookup e.space e.map e.mp e.opc) = e.modrm ∧
    (∀ c, c ∈ lookup e.space e.map e.mp e.opc ↔ ∃ f ∈ e.families, c ∈ f.2.2) ∧
    (∀ f ∈ e.families, ∀ c ∈ f.2.2, (row c).digit = f.1 ∧ (row c).w = f.2.1)

/-- R137: the group opcodes and the digits (and W) that have a family. It rests on the spec's own choice D1 (assumption 6).
-/
def Obligations.GroupDigitsWithFamily : Prop :=
  ∀ (d : BitVec 3) (W : Bool),
    (∀ k ∈ [(TableSpace.Legacy, Mp.NP), (.Legacy, .P66), (.VEX, .P66), (.EVEX, .P66)],
      (select (lookup k.1 .m0F k.2 0x71) (some d) W).isSome = decide (d ∈ [2, 4, 6])) ∧
    (∀ k ∈ [(TableSpace.Legacy, Mp.NP), (.Legacy, .P66), (.VEX, .P66)],
      (select (lookup k.1 .m0F k.2 0x72) (some d) W).isSome = decide (d ∈ [2, 4, 6])) ∧
    (select (lookup .EVEX .m0F .P66 0x72) (some d) W).isSome = decide (d ∈ [0, 1, 4] ∨ (d ∈ [2, 6] ∧ W = false)) ∧
    (select (lookup .Legacy .m0F .NP 0x73) (some d) W).isSome = decide (d ∈ [2, 6]) ∧
    (∀ sp ∈ [TableSpace.Legacy, .VEX],
      (select (lookup sp .m0F .P66 0x73) (some d) W).isSome = decide (d ∈ [2, 3, 6, 7])) ∧
    (select (lookup .EVEX .m0F .P66 0x73) (some d) W).isSome = decide (d ∈ [3, 7] ∨ (d ∈ [2, 6] ∧ W = true))

/-- R136, R139: the selection leaves the rows of one family, at most one per vector length. It rests on the spec's own
choice D18 (assumption 6). -/
def Obligations.SelectionLeavesOneFamily : Prop :=
  ∀ sp m mp o reg W fam, select (lookup sp m mp o) reg W = some fam →
    ∀ c ∈ fam, ∀ d ∈ fam,
      (row c).shape = (row d).shape ∧ (row c).mask = (row d).mask ∧ (row c).digit = (row d).digit ∧
      (row c).w = (row d).w ∧ (row c).bcst.map Prod.snd = (row d).bcst.map Prod.snd ∧
      ((row c).vl = (row d).vl → c = d)

/-- R133: LOCK on a legacy row raises `UnknownOpcode`, once the opcode is read and before ModRM. It rests on the spec's own
choice D7 (assumption 6). -/
def Obligations.LockOnLegacyRowRaises : Prop :=
  (∀ (w : List Byte) (r r1 : Regs), readOpcode w r = .ok r1 → r1.ps.space = .Legacy → r1.ps.lock = true →
    entryOf r1 ≠ [] → ∃ st, opcodeLookup w r = .error st ∧ st.err = .UnknownOpcode) ∧
  (∀ (order : RexOrder) (bt : Bitness) (pre rest : List Byte) (o : Byte), (∀ x ∈ pre, x ∈ prefixBytes) →
    (0xF0 : Byte) ∈ pre → pre.length ≤ 13 → o ≠ 0x38 → o ≠ 0x3A →
    decodeErr order bt (pre ++ 0x0F :: o :: rest) = some .UnknownOpcode)

/-- R153: a memory form of a register-only row raises `InvalidModRM`, whatever follows the ModRM byte. It rests on the
spec's own choice D17 (assumption 6). -/
def Obligations.RegisterOnlyRowRefusesMemory : Prop :=
  ∀ (order : RexOrder) (bt : Bitness) (i : Instr) (m : Byte) (rest : List Byte),
    (row i.code).shape = .RMreg_IB ∨ (row i.code).shape = .V_RMreg_IB →
    i.prefixWf bt = true → i.bundle.legacy.lock = false → (encodeHead (row i.code) i.bundle).length ≤ 14 →
    m.toNat / 64 ≠ 3 → (row i.code).digit = some (BitVec.ofNat 3 (m.toNat / 8)) →
    decodeErr order bt (encodeHead (row i.code) i.bundle ++ m :: rest) = some .InvalidModRM

/-! ### Addressing -/

/-- R151: the address size. It rests on the spec's own choice D13 (assumption 6). -/
def Obligations.AddressSizeTable : Prop :=
  addrSize .b16 false = .a16 ∧ addrSize .b16 true = .a32 ∧ addrSize .b32 false = .a32 ∧ addrSize .b32 true = .a16 ∧
  addrSize .b64 false = .a64 ∧ addrSize .b64 true = .a32

/-- R154, R155: 16-bit addressing, by rm and mod. It rests on the spec's own choice D14 (assumption 6). -/
def Obligations.SixteenBitAddressing : Prop :=
  ∀ e ∈ [((0 : BitVec 3), some 3, some 6), (1, some 3, some 7), (2, some 5, some 6), (3, some 5, some 7),
      (4, some 6, none), (5, some 7, none), (6, some 5, none), (7, some 3, none)],
  ∀ (bt : Bitness) (X B : Bool) (mod : BitVec 2) (sib : Option Byte), mod ≠ 3 →
    needsSib .a16 e.1 = false ∧
    memWork bt .a16 X B mod e.1 sib =
      { as := .a16, base := if mod = 0 ∧ e.1 = 6 then none else e.2.1.map (gpr .a16), index := e.2.2.map (gpr .a16),
        scale := 1 } ∧
    dispSizeOf .a16 mod e.1 sib =
      (if mod = 1 then 1 else if mod = 2 then 2 else if e.1 = 6 then 2 else 0)

/-- R156 to R161: base, index, scale and displacement size of 32- and 64-bit addressing. It rests on the spec's own choices
D14, D16 (assumption 6). -/
def Obligations.WideAddressing : Prop :=
  ∀ (bt : Bitness) (as : AddrSize) (X B : Bool) (mod : BitVec 2), as ≠ .a16 → mod ≠ 3 →
    (∀ rm : BitVec 3, needsSib as rm = decide (rm = 4)) ∧
    (∀ rm : BitVec 3, rm ≠ 4 → ¬ (rm = 5 ∧ mod = 0) →
      memWork bt as X B mod rm none =
        { as := as, base := some (gpr as (8 * B.toNat + rm.toNat)), index := none, scale := 1 } ∧
      dispSizeOf as mod rm none = (if mod = 1 then 1 else if mod = 2 then 4 else 0)) ∧
    (mod = 0 →
      memWork bt as X B mod 5 none =
        { as := as, base := if bt = .b64 then (if as = .a64 then some .rip else some .eip) else none, index := none,
          scale := 1 } ∧
      dispSizeOf as mod 5 none = 4) ∧
    (∀ sib : Byte,
      memWork bt as X B mod 4 (some sib) =
        { as := as
          base := if sib.toNat % 8 = 5 ∧ mod = 0 then none else some (gpr as (8 * B.toNat + sib.toNat % 8))
          index := if sib.toNat / 8 % 8 = 4 ∧ X = false then none else some (gpr as (8 * X.toNat + sib.toNat / 8 % 8))
          scale := if sib.toNat / 8 % 8 = 4 ∧ X = false then 1 else 2 ^ (sib.toNat / 64) } ∧
      dispSizeOf as mod 4 (some sib) =
        (if mod = 1 then 1 else if mod = 2 then 4 else if sib.toNat % 8 = 5 then 4 else 0))

/-- R57, R162: a displacement is read least significant byte first and sign-extended. It rests on the spec's own choice D15
(assumption 6). -/
def Obligations.DisplacementIsSignedLittleEndian : Prop :=
  ∀ (w : List Byte) (r : Regs) (size : Nat), size = 0 ∨ size = 1 ∨ size = 2 ∨ size = 4 → r.pos.val + size ≤ 15 →
    r.pos.val + size ≤ w.length → r.dispRaw = 0 →
    readDisp w size r =
      .ok { r with pos := Fin.ofNat 16 (r.pos.val + size), dispRaw := signedLE ((w.drop r.pos.val).take size) }

/-- R196: the stored displacement and its encoded size. It rests on the spec's own choice D15 (assumption 6). -/
def Obligations.StoredDisplacement : Prop :=
  ∀ (f : Form) (p : Pieces) (md : MemWork), p.md = some md →
    ((assemble f p).memoryDisplacement.toNat : Int) =
      (p.dispRaw * p.vf.n) % (if md.as = .a16 then 65536 else 4294967296) ∧
    (assemble f p).memoryDisplSize = p.dispSize

/-! ### The vector fields -/

/-- R183 to R185: the EVEX vector length, the rounding branch and the rounding map; no row has a rounding form. It rests on
the spec's own choices D19, D20 (assumption 6). -/
def Obligations.EvexLengthAndRounding : Prop :=
  (∀ (k : Rounding) (ps : PrefixState) (regform : Bool), ps.space = .EVEX → ¬ (regform = true ∧ ps.b = true) →
    vectorLength k ps regform =
      if ps.LL.toNat = 3 then none
      else some { vl := if ps.LL.toNat = 0 then 128 else if ps.LL.toNat = 1 then 256 else 512, rc := .None, sae := false }) ∧
  (∀ (ps : PrefixState), ps.space = .EVEX → ps.b = true →
    vectorLength .er ps true = some { vl := 512, rc := rcMap ps.LL, sae := true } ∧
    vectorLength .sae ps true = some { vl := 512, rc := .None, sae := true } ∧
    vectorLength .none ps true = none) ∧
  (rcMap 0 = .RoundToNearest ∧ rcMap 1 = .RoundDown ∧ rcMap 2 = .RoundUp ∧ rcMap 3 = .RoundTowardZero) ∧
  (∀ c : Code, (row c).rounding = .none)

/-- R195: the displacement factor. It rests on the spec's own choice D23 (assumption 6). -/
def Obligations.DisplacementFactor : Prop :=
  ∀ (f : Form) (ps : PrefixState) (md : Option MemWork) (size : Nat) (vf : VectorFields),
    vectorFieldDecode f ps md.isNone (isDisp8 md size) = .ok vf →
    (ps.space = .EVEX ∧ md ≠ none ∧ size = 1 →
      (vf.bcst = true → ∃ ms elem, f.bcst = some (ms, elem) ∧ vf.n = elem) ∧ (vf.bcst = false → vf.n = vf.vl / 8)) ∧
    (¬ (ps.space = .EVEX ∧ md ≠ none ∧ size = 1) → vf.n = 1)

/-- R184, R187, R189, R191 to R193: an instruction of a VEX or EVEX row raises `InvalidVexEvexEncoding` exactly for the
listed causes. It rests on the spec's own choices D12, D19 to D21 (assumption 6). -/
def Obligations.VectorFieldErrorsAreTheListed : Prop :=
  ∀ (i : Instr) (s : State),
    ((row i.code).space = .VEX →
      (exec i s = raises s .InvalidVexEvexEncoding ↔
        (row i.code).shape ∈ [Shape.R_RM_IB, .NONE] ∧ i.bundle.vex.vvvv ≠ 0)) ∧
    ((row i.code).space = .EVEX →
      (exec i s = raises s .InvalidVexEvexEncoding ↔
        (i.bundle.evex.b = true ∧ (i.bundle.rm.isReg = true ∨ (row i.code).bcst = none)) ∨
        ((row i.code).shape = .R_RM_IB ∧ (i.bundle.evex.vvvv ≠ 0 ∨ i.bundle.evex.Vp = true)) ∨
        ((row i.code).mask = .none ∧ (i.bundle.evex.aaa ≠ 0 ∨ i.bundle.evex.z = true)) ∨
        ((row i.code).mask = .k1 ∧ i.bundle.evex.z = true) ∨
        (i.bundle.evex.z = true ∧ i.bundle.evex.aaa = 0) ∨
        ((row i.code).shape = .K_V_RM ∧ s.bitness = .b64 ∧ (i.bundle.evex.R = true ∨ i.bundle.evex.Rp = true))))

/-! ### The instructions -/

/-- R133, R199, R218: an instruction completes with a record of its Code exactly where its fields are legal; otherwise it
raises the one error of its space; it never stops the machine. It rests on the spec's own choices D7, D12, D19 to D21
(assumption 6). -/
def Obligations.ExecCompletesExactlyWhenLegal : Prop :=
  ∀ (i : Instr) (s : State),
    (i.legal s.bitness = true → ∃ vf r, exec i s = completes s vf r ∧ r.code = i.code) ∧
    (i.legal s.bitness = false →
      exec i s = raises s (if (row i.code).space = .Legacy then .UnknownOpcode else .InvalidVexEvexEncoding))

/-- R43 to R45, R51: an instruction's meaning changes `vf`, `fsm` and `result` alone: no input, no byte of the buffer, no
other register. -/
def Obligations.ExecChangesOnlyOutcome : Prop :=
  ∀ (i : Instr) (s t : State), exec i s = .next t →
    t = { s with vf := t.vf, fsm := t.fsm, result := t.result } ∧ ∀ a, t.buffer.read a = s.buffer.read a

/-- R300 to R303: the legacy shuffles complete, with this record, where no LOCK stands. It rests on the spec's own choice
D1 (assumption 6). -/
def Obligations.LegacyShufflesComplete : Prop :=
  ∀ e ∈ legacyShuffles, ∀ (p : LegacyPrefix) (reg : BitVec 3) (rm : RMOperand) (ib : Byte) (s : State),
    p.lock = false →
    exec (e.1 p reg rm ib) s = completes s legacyVf
      (legacyRecord s e.2.1 e.2.2.2 p rm
        [regOp (legacyVec e.2.2.1 (rexBit p 2) reg), legacyRm e.2.2.1 p rm, immOp ib])

/-- R304 to R319: the legacy shifts of an MM register complete, with this record, where no LOCK stands. It rests on the
spec's own choice D1 (assumption 6). -/
def Obligations.LegacyMmxShiftsComplete : Prop :=
  ∀ e ∈ legacyMmxShifts, ∀ (p : LegacyPrefix) (rm : BitVec 3) (ib : Byte) (s : State), p.lock = false →
    exec (e.1 p rm ib) s = completes s legacyVf
      (record e.2 s.regs.pos p.seg [regOp (vec .MM rm.toNat), immOp ib])

/-- R305 to R321: the legacy shifts of an XMM register complete, with this record, where no LOCK stands. It rests on the
spec's own choice D1 (assumption 6). -/
def Obligations.LegacyXmmShiftsComplete : Prop :=
  ∀ e ∈ legacyXmmShifts, ∀ (p : LegacyPrefix) (rm : BitVec 3) (ib : Byte) (s : State), p.lock = false →
    exec (e.1 p rm ib) s = completes s legacyVf
      (record e.2 s.regs.pos p.seg [regOp (vec .XMM (8 * (rexBit p 0).toNat + rm.toNat)), immOp ib])

/-- R322 to R327: the legacy compares complete, with this record, where no LOCK stands. It rests on the spec's own choice
D1 (assumption 6). -/
def Obligations.LegacyComparesComplete : Prop :=
  ∀ e ∈ legacyCompares, ∀ (p : LegacyPrefix) (reg : BitVec 3) (rm : RMOperand) (s : State), p.lock = false →
    exec (e.1 p reg rm) s = completes s legacyVf
      (legacyRecord s e.2.1 e.2.2.2 p rm [regOp (legacyVec e.2.2.1 (rexBit p 2) reg), legacyRm e.2.2.1 p rm])

/-- R328: EMMS completes with a record of no operands, where no LOCK stands. It rests on the spec's own choice D1
(assumption 6). -/
def Obligations.EmmsCompletes : Prop :=
  ∀ (p : LegacyPrefix) (s : State), p.lock = false →
    exec (.Emms p) s = completes s legacyVf (record .Emms s.regs.pos p.seg [])

/-- R340 to R345: the VEX shuffles complete, with this record, where vvvv is unused. It rests on the spec's own choice D1
(assumption 6). -/
def Obligations.VexShufflesComplete : Prop :=
  ∀ e ∈ vexShuffles, ∀ (p : VexPrefix) (reg : BitVec 3) (rm : RMOperand) (ib : Byte) (s : State), p.vvvv = 0 →
    exec (e.1 p reg rm ib) s = completes s (vexVf e.2.2.1)
      (vexRecord s e.2.1 e.2.2.2.2 p rm
        [regOp (vec e.2.2.2.1 (vexReg s.bitness p reg)), rmOp e.2.2.2.1 (vexRm s.bitness p rm.field) rm, immOp ib])

/-- R346 to R365: the VEX shifts complete, always, with this record: the destination is the vvvv register. It rests on the
spec's own choice D1 (assumption 6). -/
def Obligations.VexShiftsComplete : Prop :=
  ∀ e ∈ vexShifts, ∀ (p : VexPrefix) (rm : BitVec 3) (ib : Byte) (s : State),
    exec (e.1 p rm ib) s = completes s (vexVf e.2.2.1)
      (record e.2.1 s.regs.pos p.seg
        [regOp (vec e.2.2.2 (vexV s.bitness p)), regOp (vec e.2.2.2 (vexRm s.bitness p rm)), immOp ib])

/-- R366 to R371: the VEX compares complete, always, with this record. It rests on the spec's own choice D1 (assumption 6).
-/
def Obligations.VexComparesComplete : Prop :=
  ∀ e ∈ vexCompares, ∀ (p : VexPrefix) (reg : BitVec 3) (rm : RMOperand) (s : State),
    exec (e.1 p reg rm) s = completes s (vexVf e.2.2.1)
      (vexRecord s e.2.1 e.2.2.2.2 p rm
        [regOp (vec e.2.2.2.1 (vexReg s.bitness p reg)), regOp (vec e.2.2.2.1 (vexV s.bitness p)),
         rmOp e.2.2.2.1 (vexRm s.bitness p rm.field) rm])

/-- R372, R373: VZEROUPPER and VZEROALL complete with a record of no operands, where vvvv is unused. It rests on the spec's
own choice D1 (assumption 6). -/
def Obligations.VexZerosComplete : Prop :=
  ∀ e ∈ vexZeros, ∀ (p : VexPrefix) (s : State), p.vvvv = 0 →
    exec (e.1 p) s = completes s (vexVf e.2.2) (record e.2.1 s.regs.pos p.seg [])

/-- R380 to R388: the EVEX shuffles complete, with this record, where vvvv is unused and the mask and broadcast fields are
ones the row allows. It rests on the spec's own choice D1 (assumption 6). -/
def Obligations.EvexShufflesComplete : Prop :=
  ∀ e ∈ evexShuffles, ∀ (p : EvexPrefix) (reg : BitVec 3) (rm : RMOperand) (ib : Byte) (s : State),
    p.vvvv = 0 → p.Vp = false → zeroingOk p → broadcastOk e.2.2.2.2.2 p rm →
    exec (e.1 p reg rm ib) s = completes s (evexVf e.2.2.1 e.2.2.2.2.2 p rm)
      (evexRecord s e.2.1 e.2.2.1 e.2.2.2.2.1 e.2.2.2.2.2 p rm
        [regOp (vec e.2.2.2.1 (evexReg s.bitness p reg)), rmOp e.2.2.2.1 (evexRm s.bitness p rm.field) rm, immOp ib])

/-- R389 to R397: the EVEX word shifts complete, with this record, where the mask and broadcast fields are ones the row
allows: the destination is the vvvv register. It rests on the spec's own choice D1 (assumption 6). -/
def Obligations.EvexWordShiftsComplete : Prop :=
  ∀ e ∈ evexWordShifts, ∀ (p : EvexPrefix) (rm : RMOperand) (ib : Byte) (s : State),
    zeroingOk p → broadcastOk e.2.2.2.2.2 p rm →
    exec (e.1 p rm ib) s = completes s (evexVf e.2.2.1 e.2.2.2.2.2 p rm)
      (evexRecord s e.2.1 e.2.2.1 e.2.2.2.2.1 e.2.2.2.2.2 p rm
        [regOp (vec e.2.2.2.1 (evexV s.bitness p)), rmOp e.2.2.2.1 (evexRm s.bitness p rm.field) rm, immOp ib])

/-- R398 to R409: the EVEX rotates complete, with this record, where the mask and broadcast fields are ones the row allows:
the destination is the vvvv register. It rests on the spec's own choice D1 (assumption 6). -/
def Obligations.EvexRotatesComplete : Prop :=
  ∀ e ∈ evexRotates, ∀ (p : EvexPrefix) (rm : RMOperand) (ib : Byte) (s : State),
    zeroingOk p → broadcastOk e.2.2.2.2.2 p rm →
    exec (e.1 p rm ib) s = completes s (evexVf e.2.2.1 e.2.2.2.2.2 p rm)
      (evexRecord s e.2.1 e.2.2.1 e.2.2.2.2.1 e.2.2.2.2.2 p rm
        [regOp (vec e.2.2.2.1 (evexV s.bitness p)), rmOp e.2.2.2.1 (evexRm s.bitness p rm.field) rm, immOp ib])

/-- R410 to R424, R428 to R430: the EVEX doubleword and quadword shifts complete, with this record, where the mask and
broadcast fields are ones the row allows: the destination is the vvvv register. It rests on the spec's own choice D1
(assumption 6). -/
def Obligations.EvexElementShiftsComplete : Prop :=
  ∀ e ∈ evexElementShifts, ∀ (p : EvexPrefix) (rm : RMOperand) (ib : Byte) (s : State),
    zeroingOk p → broadcastOk e.2.2.2.2.2 p rm →
    exec (e.1 p rm ib) s = completes s (evexVf e.2.2.1 e.2.2.2.2.2 p rm)
      (evexRecord s e.2.1 e.2.2.1 e.2.2.2.2.1 e.2.2.2.2.2 p rm
        [regOp (vec e.2.2.2.1 (evexV s.bitness p)), rmOp e.2.2.2.1 (evexRm s.bitness p rm.field) rm, immOp ib])

/-- R425 to R427, R431 to R433: the EVEX byte shifts complete, with this record, where no mask is given and b = 0. It rests
on the spec's own choice D1 (assumption 6). -/
def Obligations.EvexByteShiftsComplete : Prop :=
  ∀ e ∈ evexByteShifts, ∀ (p : EvexPrefix) (rm : RMOperand) (ib : Byte) (s : State),
    p.aaa = 0 → p.z = false → broadcastOk e.2.2.2.2.2 p rm →
    exec (e.1 p rm ib) s = completes s (evexVf e.2.2.1 e.2.2.2.2.2 p rm)
      (evexRecord s e.2.1 e.2.2.1 e.2.2.2.2.1 e.2.2.2.2.2 p rm
        [regOp (vec e.2.2.2.1 (evexV s.bitness p)), rmOp e.2.2.2.1 (evexRm s.bitness p rm.field) rm, immOp ib])

/-- R440 to R448: the EVEX compares complete, with this record, where z = 0, R and R' are 0 (64-bit bitness) and the
broadcast fields are ones the row allows: the destination is a K register. It rests on the spec's own choice D1 (assumption
6). -/
def Obligations.EvexComparesComplete : Prop :=
  ∀ e ∈ evexCompares, ∀ (p : EvexPrefix) (reg : BitVec 3) (rm : RMOperand) (s : State),
    p.z = false → in64 s.bitness p.R = false → in64 s.bitness p.Rp = false → broadcastOk e.2.2.2.2.2 p rm →
    exec (e.1 p reg rm) s = completes s (evexVf e.2.2.1 e.2.2.2.2.2 p rm)
      (evexRecord s e.2.1 e.2.2.1 e.2.2.2.2.1 e.2.2.2.2.2 p rm
        [regOp (.k reg), regOp (vec e.2.2.2.1 (evexV s.bitness p)), rmOp e.2.2.2.1 (evexRm s.bitness p rm.field) rm])

/-- R449 to R466: the EVEX concatenating shifts complete, with this record, where the mask and broadcast fields are ones
the row allows. It rests on the spec's own choice D1 (assumption 6). -/
def Obligations.EvexConcatShiftsComplete : Prop :=
  ∀ e ∈ evexConcatShifts, ∀ (p : EvexPrefix) (reg : BitVec 3) (rm : RMOperand) (ib : Byte) (s : State),
    zeroingOk p → broadcastOk e.2.2.2.2.2 p rm →
    exec (e.1 p reg rm ib) s = completes s (evexVf e.2.2.1 e.2.2.2.2.2 p rm)
      (evexRecord s e.2.1 e.2.2.1 e.2.2.2.2.1 e.2.2.2.2.2 p rm
        [regOp (vec e.2.2.2.1 (evexReg s.bitness p reg)), regOp (vec e.2.2.2.1 (evexV s.bitness p)),
         rmOp e.2.2.2.1 (evexRm s.bitness p rm.field) rm, immOp ib])

/-! ### Encoding -/

/-- Words written out bit by bit from R70 to R80, with the instructions they stand for. -/
def Obligations.WrittenWordsDecode : Prop :=
  decodeInstr .Architectural .b64 [0x66, 0x44, 0x0F, 0x70, 0xCD, 0xA5] =
    some (.Pshufd_xmm_xmmm128_imm8 { LegacyPrefix.none with opsize := true, rex := some 4 } 1 (.reg 5) 0xA5) ∧
  decodeInstr .Architectural .b16 [0x66, 0x0F, 0x70, 0x08, 0xA5] =
    some (.Pshufd_xmm_xmmm128_imm8 { LegacyPrefix.none with opsize := true } 1 (.mem 0 0 none .none) 0xA5) ∧
  decodeInstr .Architectural .b64 [0xC5, 0xF8, 0x77] = some (.VEX_Vzeroupper VexPrefix.none) ∧
  decodeInstr .Architectural .b64 [0x62, 0xF1, 0x7D, 0x8B, 0x70, 0x50, 0x01, 0xA5] =
    some (.EVEX_Vpshufd_xmm_k1z_xmmm128b32_imm8 { EvexPrefix.none with z := true, aaa := 3 } 2
      (.mem 1 0 none (.d8 1)) 0xA5)

/-- R82: the key of every row, given to the decoder as the bytes that `tableWordBytes` chooses for it (the model's choice,
assumption 5), is read as an instruction of the row's Code. -/
def Obligations.TableKeysDecodeToTheirRow : Prop :=
  ∀ c : Code, (decodeTableWord 20 (row c).keyMatch.toNat).map Instr.code = some c

/-- R70 to R72, R76 to R80: the encoding of a well-formed legacy instruction, whatever follows it, decodes to it. It rests
on the spec's own choices D1, D10 (assumption 6). -/
def Obligations.LegacyEncodingRoundTrip : Prop :=
  ∀ (i : Instr) (order : RexOrder) (bt : Bitness) (rest : List Byte), (row i.code).space = .Legacy →
    i.wf bt = true → decodeInstr order bt (encode i ++ rest) = some i

/-- R70, R71, R73, R74, R76 to R80: the encoding of a well-formed VEX instruction, whatever follows it, decodes to it. It
rests on the spec's own choices D1, D10 (assumption 6). -/
def Obligations.VexEncodingRoundTrip : Prop :=
  ∀ (i : Instr) (order : RexOrder) (bt : Bitness) (rest : List Byte), (row i.code).space = .VEX →
    i.wf bt = true → decodeInstr order bt (encode i ++ rest) = some i

/-- R70, R71, R75 to R80: the encoding of a well-formed EVEX instruction, whatever follows it, decodes to it. It rests on
the spec's own choices D1, D10 (assumption 6). -/
def Obligations.EvexEncodingRoundTrip : Prop :=
  ∀ (i : Instr) (order : RexOrder) (bt : Bitness) (rest : List Byte), (row i.code).space = .EVEX →
    i.wf bt = true → decodeInstr order bt (encode i ++ rest) = some i

/-- R89, R212: a transaction on the encoding of a well-formed, legal instruction, whatever follows it, ends in a record of
its Code whose length is the number of bytes the encoding has. -/
def Obligations.EncodedInstructionReportsItsLength : Prop :=
  ∀ (i : Instr) (s : State) (rest : List Byte), i.wf s.bitness = true → i.legal s.bitness = true →
    s.window = encode i ++ rest →
    (encode i).length = i.byteCount ∧
    ∃ t r, step s = .next t ∧ t.result = .Ok r ∧ r.code = i.code ∧ r.byteLength.val = i.byteCount
end

