-- ==== Sys2Proof/Laws/Exec.lean ====
section
/-! SUPPORT. Every meaning in one form: `exec i` is `complete` over the form that the table gives the Code of `i` and the
pieces that its operand fields give. A claim about every instruction is proved once, over this form. -/

namespace Sys2Proof.Machine

open Sys2Proof

/-- The prefix state of an instruction in the given bitness. -/
def instrState (bt : Bitness) (i : Instr) : PrefixState :=
  match (row i.code).space with
  | .Legacy => legacyState (row i.code).map i.bundle.legacy
  | .VEX => vexState bt (row i.code).map (row i.code).mp (decide ((row i.code).vl = 256)) i.bundle.vex
  | .EVEX => evexPrefixState bt (row i.code).map (row i.code).mp (llOf (row i.code).vl) i.bundle.evex

/-- The imm8 of an instruction whose row has one. -/
def instrImm (i : Instr) : Option Byte := if (row i.code).shape.hasImm8 then some i.bundle.imm else none

/-- The assembler's pieces of an instruction, before `vf` is known. -/
def instrPieces (i : Instr) (s : State) : Pieces :=
  piecesOf (instrState s.bitness i) i.bundle.reg i.bundle.rm (instrImm i) s

/-- Every meaning is `complete` over the table's form. -/
theorem exec_eq_complete (i : Instr) (s : State) :
    exec i s = complete (tableForm i.code) (instrPieces i s) s := by
  cases i <;> rfl

end Sys2Proof.Machine
end

