-- ==== Sys2Proof/Laws/Ops.lean ====
section
/-! SUPPORT. One lemma per shared operation that says once everything it can do: the cursor reads (spec/20_memory.md R53,
R54), the choice of the Code, `VectorFieldDecode`, the assembler, and `complete`, the work of every meaning. A later proof
cites these and unfolds none of the operations. -/

namespace Sys2Proof

open Sys2Proof.Machine

/-! ### The cursor -/

/-- R8, R53: below `MAX_LEN` the cursor does not wrap. -/
theorem cursor_succ (p : Fin 16) (h : p.val < 15) : (p + 1).val = p.val + 1 := by revert p; decide

/-- The cursor after two reads, and after three. -/
theorem cursor_two (p : Fin 16) : p + 1 + 1 = p + 2 := by revert p; decide
theorem cursor_three (p : Fin 16) : p + 1 + 1 + 1 = p + 3 := by revert p; decide

/-- R54: what `PeekByte` gives. -/
theorem peekByte_eq_ok (w : List Byte) (r : Regs) (b : Byte) :
    peekByte w r = .ok b ↔ r.pos.val < 15 ∧ w[r.pos.val]? = some b := by
  unfold peekByte raiseAt Config.maxLen
  split
  · simp; omega
  · split <;> simp_all

/-- R54: when `PeekByte` raises. -/
theorem peekByte_eq_error (w : List Byte) (r : Regs) (st : Stop) :
    peekByte w r = .error st ↔
      (15 ≤ r.pos.val ∧ st = { err := .InstructionTooLong, regs := r }) ∨
      (r.pos.val < 15 ∧ w.length ≤ r.pos.val ∧ st = { err := .UnexpectedEof, regs := r }) := by
  unfold peekByte raiseAt Config.maxLen
  split
  · rename_i h
    simp only [Except.error.injEq, h, true_and, show ¬ r.pos.val < 15 by omega, false_and, or_false]
    exact eq_comm
  · rename_i h
    split
    · rename_i hn
      rw [List.getElem?_eq_none_iff] at hn
      simp only [Except.error.injEq, h, false_and, false_or, show r.pos.val < 15 by omega, hn, true_and]
      exact eq_comm
    · rename_i b hb
      have : r.pos.val < w.length := (List.getElem?_eq_some_iff.mp hb).1
      simp; omega

/-- R53: what `ReadByte` gives: the byte at the cursor, and the cursor one further. -/
theorem readByte_eq_ok (w : List Byte) (r r' : Regs) (b : Byte) :
    readByte w r = .ok (b, r') ↔ r.pos.val < 15 ∧ w[r.pos.val]? = some b ∧ r' = { r with pos := r.pos + 1 } := by
  unfold readByte
  cases h : peekByte w r with
  | error st =>
    simp only [reduceCtorEq, false_iff]
    rintro ⟨h1, h2, -⟩
    rw [(peekByte_eq_ok w r b).mpr ⟨h1, h2⟩] at h
    cases h
  | ok v =>
    obtain ⟨h1, h2⟩ := (peekByte_eq_ok w r v).mp h
    simp only [Except.ok.injEq, Prod.mk.injEq, h1, h2, Option.some.injEq, true_and]
    exact and_congr_right fun _ => eq_comm

/-- R53: `ReadByte` raises as `PeekByte` does. -/
theorem readByte_eq_error (w : List Byte) (r : Regs) (st : Stop) :
    readByte w r = .error st ↔ peekByte w r = .error st := by
  unfold readByte
  cases peekByte w r <;> simp

/-- R53, R55: after a read the cursor is in range and one further. -/
theorem readByte_pos (w : List Byte) (r r' : Regs) (b : Byte) (h : readByte w r = .ok (b, r')) :
    r'.pos.val = r.pos.val + 1 ∧ r.pos.val < w.length := by
  obtain ⟨h1, h2, rfl⟩ := (readByte_eq_ok w r r' b).mp h
  exact ⟨cursor_succ _ h1, (List.getElem?_eq_some_iff.mp h2).1⟩

/-! ### The choice of the Code -/

/-- R198: the Code that a family gives a length is one of its rows and has that length. -/
theorem codeOf_eq_some (fam : List Code) (vl : Nat) (c : Code) (h : codeOf fam vl = some c) :
    c ∈ fam ∧ (row c).vl = vl := by
  refine ⟨List.mem_of_find?_eq_some h, ?_⟩
  simpa using List.find?_some h

/-- R139: `build` gives the instruction of its Code. -/
@[simp] theorem build_code (c : Code) (f : Bundle) : (build c f).code = c := by
  cases c <;> rfl

/-- What an answer of `decode` says. -/
theorem decode_eq_ok (order : RexOrder) (bt : Bitness) (w : List Byte) (i : Instr) (r : Regs) :
    decode order bt w = .ok (i, r) ↔
      scanRegs order bt w = .ok r ∧ ∃ c, pickCode r = some c ∧ i = build c (bundleOf r) := by
  unfold decode
  cases h : scanRegs order bt w with
  | error st => simp
  | ok r1 =>
    cases h2 : pickCode r1 with
    | none =>
      simp only [raiseAt, h2, reduceCtorEq, false_iff, Except.ok.injEq, not_and, not_exists]
      rintro rfl c hc
      simp [h2] at hc
    | some c =>
      simp only [h2, Except.ok.injEq, Prod.mk.injEq]
      constructor
      · rintro ⟨rfl, rfl⟩; exact ⟨rfl, c, h2, rfl⟩
      · rintro ⟨rfl, d, hd, rfl⟩
        rw [h2] at hd; cases hd; exact ⟨rfl, rfl⟩

/-- `decodeInstr` is the instruction of `decode`. -/
theorem decodeInstr_eq_some (order : RexOrder) (bt : Bitness) (w : List Byte) (i : Instr) :
    decodeInstr order bt w = some i ↔ ∃ r, decode order bt w = .ok (i, r) := by
  unfold decodeInstr
  cases decode order bt w with
  | error st => simp
  | ok v => obtain ⟨j, r⟩ := v; simp

/-- `decodeErr` is the error of `decode`. -/
theorem decodeErr_eq_some (order : RexOrder) (bt : Bitness) (w : List Byte) (e : DecodeError) :
    decodeErr order bt w = some e ↔ ∃ r, decode order bt w = .error { err := e, regs := r } := by
  unfold decodeErr
  cases decode order bt w with
  | error st =>
    obtain ⟨f, r⟩ := st
    simp only [Option.some.injEq, Except.error.injEq, Stop.mk.injEq]
    constructor
    · rintro rfl; exact ⟨r, rfl, rfl⟩
    · rintro ⟨_, h, -⟩; exact h
  | ok v => simp

end Sys2Proof

namespace Sys2Proof.Machine

open Sys2Proof

/-! ### `VectorFieldDecode` -/

/-- R180: a legacy row keeps `vf` at its initial value. -/
theorem vectorFieldDecode_legacy (f : Form) (ps : PrefixState) (reg d8 : Bool) (h : ps.space = .Legacy) :
    vectorFieldDecode f ps reg d8 = .ok VectorFields.initial := by
  unfold vectorFieldDecode vectorLength; simp [h]

/-- R181, R189, R190: a VEX row. -/
theorem vectorFieldDecode_vex (f : Form) (ps : PrefixState) (reg d8 : Bool)
    (h : ps.space = .VEX2 ∨ ps.space = .VEX3) :
    vectorFieldDecode f ps reg d8 =
      if !f.usesVvvv && decide (ps.vvvvRaw ≠ 0) then .error .InvalidVexEvexEncoding
      else .ok { VectorFields.initial with vl := if ps.L then 256 else 128 } := by
  unfold vectorFieldDecode vectorLength
  rcases h with h | h <;> simp [h]

/-- R183 to R199: an EVEX row without a rounding form (R186). -/
theorem vectorFieldDecode_evex (f : Form) (ps : PrefixState) (reg d8 : Bool) (h : ps.space = .EVEX)
    (hr : f.rounding = .none) :
    vectorFieldDecode f ps reg d8 =
      if (reg && ps.b) || decide (ps.LL = 3) || evexFieldsBad f ps reg then .error .InvalidVexEvexEncoding
      else .ok
        { vl := 128 <<< ps.LL.toNat, rc := .None, sae := false, opmask := opmaskOf ps.aaa, zeroing := ps.z,
          bcst := !reg && ps.b,
          n := if d8 then dispFactor f.bcst (!reg && ps.b) (128 <<< ps.LL.toNat) else 1 } := by
  unfold vectorFieldDecode vectorLength
  simp only [h, hr]
  cases reg <;> cases ps.b <;> by_cases hl : ps.LL = 3#2 <;> simp [hl]

/-! ### The assembler -/

/-- R186: no row of the table has a rounding form. -/
@[simp] theorem tableForm_rounding (c : Code) : (tableForm c).rounding = .none := by
  cases c <;> rfl

/-- The kinds that the assembler gives the slots of a shape are kinds that the shape admits. -/
theorem descriptorMatches_assemble (c : Code) (p : Pieces)
    (h : (row c).shape.rmRegOnly = true → p.md = none) : descriptorMatches (assemble (tableForm c) p) = true := by
  cases hm : p.md with
  | none =>
    cases c <;>
      simp [descriptorMatches, assemble, hm, withRounding, assembleBase, tableForm, row, Row.legacy, Row.vex, Row.evex,
        Shape.slots, Shape.rmRegOnly, Instruction.ops, kindsMatch, Slot.admits, slotAt, fillSlot, registerSlot, immSlot,
        Instruction.blank]
  | some md =>
    rw [hm] at h
    cases c <;>
      first
      | exact absurd (h rfl) (by simp)
      | simp [descriptorMatches, assemble, hm, withRounding, withMemory, assembleBase, tableForm, row, Row.legacy,
          Row.vex, Row.evex, Shape.slots, Shape.rmRegOnly, Instruction.ops, kindsMatch, Slot.admits, slotAt, fillSlot,
          registerSlot, memorySlot, immSlot, Instruction.blank]

/-- What `finish` does once the record matches its descriptor. -/
theorem finish_eq_next (f : Form) (p : Pieces) (s : State) (h : descriptorMatches (assemble f p) = true) :
    finish f p s = .next (s.done (assemble f p)) := by
  unfold finish; simp [h]

/-- Everything `finish` can do. -/
theorem finish_cases (f : Form) (p : Pieces) (s : State) :
    finish f p s = .next (s.done (assemble f p)) ∨ finish f p s = .fault .assemblerMismatch := by
  unfold finish; split <;> simp

/-! ### `complete` -/

/-- Everything `complete` can do where the record it assembles matches its descriptor: the LOCK raise (R133), the raise of
`VectorFieldDecode`, or the record. -/
theorem complete_cases (f : Form) (p : Pieces) (s : State)
    (h : ∀ vf, descriptorMatches (assemble f { p with vf := vf }) = true) :
    (p.ps.space = .Legacy ∧ p.ps.lock = true ∧ complete f p s = .next (s.raise .UnknownOpcode)) ∨
    (∃ e, vectorFieldDecode f p.ps p.md.isNone (isDisp8 p.md p.dispSize) = .error e ∧
      complete f p s = .next (s.raise e)) ∨
    (∃ vf, vectorFieldDecode f p.ps p.md.isNone (isDisp8 p.md p.dispSize) = .ok vf ∧
      complete f p s = .next (State.done { s with vf := vf } (assemble f { p with vf := vf }))) := by
  unfold complete
  split
  · rename_i hl
    simp only [Bool.and_eq_true, decide_eq_true_eq] at hl
    exact .inl ⟨hl.1, hl.2, rfl⟩
  · split
    · rename_i e he; exact .inr (.inl ⟨e, he, rfl⟩)
    · rename_i vf hv; exact .inr (.inr ⟨vf, hv, finish_eq_next _ _ _ (h vf)⟩)

/-- A register-only row has a register rm operand. -/
theorem bundle_rm_of_regOnly (i : Instr) (h : (row i.code).shape.rmRegOnly = true) :
    i.bundle.rm = .reg i.bundle.rm.field := by
  cases i <;> first | rfl | exact absurd h (by simp [Instr.code, row, Row.legacy, Row.vex, Row.evex, Shape.rmRegOnly])

/-- R218: the record of an instruction matches its descriptor, whatever `vf` is. -/
theorem instr_descriptorMatches (i : Instr) (s : State) (vf : VectorFields) :
    descriptorMatches (assemble (tableForm i.code) { instrPieces i s with vf := vf }) = true := by
  apply descriptorMatches_assemble
  intro h
  show rmWork _ _ i.bundle.rm = none
  rw [bundle_rm_of_regOnly i h]; rfl

end Sys2Proof.Machine
end

