-- ==== Sys2Proof/Laws/Decode.lean ====
section
/-! SUPPORT. One lemma per operation of the decoder that says what its answer means: which registers it may change, how far
the cursor went, what it checked. A later proof cites these and unfolds none of the operations. -/

namespace Sys2Proof

open Sys2Proof.Machine

/-! ### The opcode table -/

/-- R141: every Code has its row in the table. -/
theorem mem_allCodes (c : Code) : c ∈ allCodes := by cases c <;> decide

/-- R132: the rows of a key. -/
theorem mem_lookup (sp : TableSpace) (m : OpMap) (mp : Mp) (o : Byte) (c : Code) :
    c ∈ lookup sp m mp o ↔
      (row c).opcode = o ∧ (row c).space = sp ∧ (row c).mp = mp ∧ (row c).map = m := by
  simp [lookup, mem_allCodes, Row.keyIs, and_assoc]

/-- R135, R136: the rows that a selection leaves; there is at least one. -/
theorem select_eq_some (entry fam : List Code) (reg : Option (BitVec 3)) (W : Bool) (h : select entry reg W = some fam) :
    fam ≠ [] ∧ ∀ c, c ∈ fam ↔ c ∈ entry ∧ digitAdmits (row c).digit reg = true ∧ (row c).w.admits W = true := by
  unfold select at h
  split at h
  · cases h
  · rename_i c cs hf
    cases h
    refine ⟨by simp, fun d => ?_⟩
    rw [← hf]; simp

/-- R135, R136: a selection fails where no row stays. -/
theorem select_eq_none (entry : List Code) (reg : Option (BitVec 3)) (W : Bool) :
    select entry reg W = none ↔
      ∀ c ∈ entry, ¬ (digitAdmits (row c).digit reg = true ∧ (row c).w.admits W = true) := by
  unfold select
  split
  · rename_i hf
    simp only [true_iff]
    simpa [List.filter_eq_nil_iff] using hf
  · rename_i c cs hf
    simp only [reduceCtorEq, false_iff, not_forall]
    have : c ∈ entry.filter (fun c => digitAdmits (row c).digit reg && (row c).w.admits W) := by rw [hf]; simp
    simp only [List.mem_filter, Bool.and_eq_true] at this
    exact ⟨c, this.1, fun hn => hn this.2⟩

/-! ### The prefix loop -/

/-- R71: the legacy prefix bytes are those that are recorded. -/
theorem recordPrefix_eq_none (b : Byte) (ps : PrefixState) :
    recordPrefix b ps = none ↔
      b.toNat ∉ [0x26, 0x2E, 0x36, 0x3E, 0x64, 0x65, 0x66, 0x67, 0xF0, 0xF2, 0xF3] := by
  unfold recordPrefix segOfByte
  generalize b.toNat = n
  split
  · rename_i s hs
    split at hs <;> simp_all
  · rename_i hs
    split at hs <;> simp_all
    split <;> simp_all

/-- R102, R103: a recorded prefix changes its own field, and drops a pending REX. -/
theorem recordPrefix_eq_some (b : Byte) (ps ps' : PrefixState) (h : recordPrefix b ps = some ps') :
    ps' = { ps with seg := ps'.seg, opsize := ps'.opsize, adsize := ps'.adsize, lock := ps'.lock, rep := ps'.rep,
                    rex := none } := by
  unfold recordPrefix at h
  split at h
  · cases h; rfl
  · split at h <;> cases h <;> rfl

/-- R101 to R103: what the prefix loop gives: it reads at least one byte, the last of them is `b0`, and of `ps` only the
legacy prefix fields and `rex` change. -/
theorem prefixLoop_ok (order : RexOrder) (bt : Bitness) (w : List Byte) :
    ∀ (n : Nat) (r r' : Regs), prefixLoop order bt w n r = .ok r' →
      ∃ b, r' = { r with pos := r'.pos, ps := r'.ps, b0 := some b } ∧
        r'.ps = { r.ps with seg := r'.ps.seg, opsize := r'.ps.opsize, adsize := r'.ps.adsize, lock := r'.ps.lock,
                            rep := r'.ps.rep, rex := r'.ps.rex } ∧
        r.pos.val < r'.pos.val ∧ w[r'.pos.val - 1]? = some b := by
  intro n
  induction n with
  | zero => intro r r' h; cases h
  | succ n ih =>
    intro r r' h
    unfold prefixLoop at h
    split at h
    · cases h
    · rename_i b r1 hr
      obtain ⟨h1, h2, rfl⟩ := (readByte_eq_ok w r r1 b).mp hr
      split at h
      · rename_i ps hp
        obtain ⟨b', e1, e2, e3, e4⟩ := ih _ _ h
        rw [recordPrefix_eq_some b _ ps hp] at e2
        exact ⟨b', e1, e2, by simp only [cursor_succ _ h1] at e3; omega, e4⟩
      · split at h
        · split at h
          · obtain ⟨b', e1, e2, e3, e4⟩ := ih _ _ h
            exact ⟨b', e1, e2, by simp only [cursor_succ _ h1] at e3; omega, e4⟩
          · split at h
            · cases h
            · rename_i b2 r2 hr2
              obtain ⟨h3, h4, rfl⟩ := (readByte_eq_ok _ _ _ _).mp hr2
              cases h
              simp only [cursor_succ _ h1] at h3 h4
              have h5 := cursor_succ (r.pos + 1) (by rw [cursor_succ _ h1]; omega)
              rw [cursor_succ _ h1] at h5
              exact ⟨b2, rfl, rfl, by simp only [h5]; omega, by simp only [h5, Nat.add_sub_cancel]; exact h4⟩
        · cases h
          exact ⟨b, rfl, rfl, by simp only [cursor_succ _ h1]; omega, by simpa only [cursor_succ _ h1, Nat.add_sub_cancel] using h2⟩

/-! ### The payloads -/

/-- R111: what reading a VEX2 payload gives. -/
theorem readVex2_ok (bt : Bitness) (w : List Byte) (r r' : Regs) :
    readVex2 bt w r = .ok r' ↔
      ∃ p1, r.pos.val < 15 ∧ w[r.pos.val]? = some p1 ∧
        r' = { r with pos := r.pos + 1, ps := endPayload bt (vex2State p1 r.ps) } := by
  unfold readVex2
  cases h : readByte w r with
  | error st =>
    simp only [reduceCtorEq, false_iff]
    rintro ⟨p1, h1, h2, -⟩
    rw [(readByte_eq_ok w r _ p1).mpr ⟨h1, h2, rfl⟩] at h
    cases h
  | ok v =>
    obtain ⟨b, r1⟩ := v
    obtain ⟨h1, h2, rfl⟩ := (readByte_eq_ok w r r1 b).mp h
    simp [h1, h2, eq_comm]

/-- R112, R113: what reading a VEX3 payload gives. -/
theorem readVex3_ok (bt : Bitness) (w : List Byte) (r r' : Regs) (h : readVex3 bt w r = .ok r') :
    ∃ p1 p2 m, r.pos.val < 14 ∧ w[r.pos.val]? = some p1 ∧ w[r.pos.val + 1]? = some p2 ∧ vexMap (p1.extractLsb' 0 5) = some m ∧
      r' = { r with pos := r.pos + 2, ps := endPayload bt { vex3State p1 p2 r.ps with map := some m } } := by
  unfold readVex3 at h
  split at h
  · cases h
  · rename_i p1 r1 hr
    obtain ⟨h1, h2, rfl⟩ := (readByte_eq_ok _ _ _ _).mp hr
    split at h
    · cases h
    · rename_i p2 r2 hr2
      obtain ⟨h3, h4, rfl⟩ := (readByte_eq_ok _ _ _ _).mp hr2
      split at h
      · cases h
      · rename_i m hm
        cases h
        simp only [cursor_succ _ h1] at h3 h4
        exact ⟨p1, p2, m, by omega, h2, h4, hm, by rw [cursor_two]⟩

/-- R114 to R116: what reading an EVEX payload gives. -/
theorem readEvex_ok (bt : Bitness) (w : List Byte) (r r' : Regs) (h : readEvex bt w r = .ok r') :
    ∃ P0 P1 P2 m, r.pos.val < 13 ∧ w[r.pos.val]? = some P0 ∧ w[r.pos.val + 1]? = some P1 ∧ w[r.pos.val + 2]? = some P2 ∧
      evexFixedOk P0 P1 = true ∧ evexMap (P0.extractLsb' 0 2) = some m ∧
      r' = { r with pos := r.pos + 3, ps := endPayload bt { evexState P0 P1 P2 r.ps with map := some m } } := by
  unfold readEvex at h
  split at h
  · cases h
  · rename_i P0 r1 hr
    obtain ⟨h1, h2, rfl⟩ := (readByte_eq_ok _ _ _ _).mp hr
    split at h
    · cases h
    · rename_i P1 r2 hr2
      obtain ⟨h3, h4, rfl⟩ := (readByte_eq_ok _ _ _ _).mp hr2
      split at h
      · cases h
      · rename_i P2 r3 hr3
        obtain ⟨h5, h6, rfl⟩ := (readByte_eq_ok _ _ _ _).mp hr3
        split at h
        · rename_i m hf hm
          cases h
          simp only [cursor_succ _ h1] at h3 h4
          have h7 := cursor_succ (r.pos + 1) (by rw [cursor_succ _ h1]; omega)
          rw [cursor_succ _ h1] at h7
          simp only [h7] at h5 h6
          exact ⟨P0, P1, P2, m, by omega, h2, h4, h6, hf, hm, by rw [cursor_three]⟩
        · cases h
        · cases h

/-- R109, R110: what the work on an escape byte gives: nothing barred stood before it, and one of the payloads was read. -/
theorem readEscape_ok (bt : Bitness) (w : List Byte) (b0 : Byte) (r r' : Regs) (h : readEscape bt w b0 r = .ok r') :
    badBeforeEscape r.ps = false ∧
      ((b0 = 0xC5 ∧ readVex2 bt w r = .ok r') ∨ (b0 = 0xC4 ∧ readVex3 bt w r = .ok r') ∨
        (b0 ≠ 0xC5 ∧ b0 ≠ 0xC4 ∧ readEvex bt w r = .ok r')) := by
  unfold readEscape at h
  split at h
  · cases h
  · rename_i hb
    refine ⟨by simpa using hb, ?_⟩
    split at h
    · exact .inl ⟨‹_›, h⟩
    · split at h
      · exact .inr (.inl ⟨‹_›, h⟩)
      · exact .inr (.inr ⟨‹_›, ‹_›, h⟩)

/-- R106 to R108: when the first byte after the prefixes is taken as an escape. -/
theorem escapeTaken_ok (bt : Bitness) (w : List Byte) (b0 : Byte) (r : Regs) (t : Bool) (h : escapeTaken bt w b0 r = .ok t) :
    (t = true → isEscapeByte b0 = true) ∧ (isEscapeByte b0 = true → bt = .b64 → t = true) := by
  unfold escapeTaken at h
  split at h
  · refine ⟨fun _ => ‹_›, fun _ h64 => ?_⟩
    subst h64
    cases h; rfl
  · cases h
    exact ⟨fun h => by simp at h, fun h => absurd h ‹_›⟩

/-- R123: what the prefix scan gives: the prefix loop, and then an escape's payload or the end of a legacy scan. -/
theorem prefixScan_ok (order : RexOrder) (bt : Bitness) (w : List Byte) (r r' : Regs)
    (h : prefixScan order bt w r = .ok r') :
    ∃ r1 t, prefixLoop order bt w (Config.maxLen + 1) r = .ok r1 ∧ escapeTaken bt w (r1.b0.getD 0) r1 = .ok t ∧
      ((t = true ∧ readEscape bt w (r1.b0.getD 0) r1 = .ok r') ∨
        (t = false ∧ r' = { r1 with ps := legacyEnd r1.ps })) := by
  unfold prefixScan at h
  split at h
  · cases h
  · rename_i r1 h1
    split at h
    · cases h
    · exact ⟨r1, true, h1, ‹_›, .inl ⟨rfl, h⟩⟩
    · cases h; exact ⟨r1, false, h1, ‹_›, .inr ⟨rfl, rfl⟩⟩

/-- R104, R118: the end of a legacy scan. -/
theorem legacyEnd_eq (ps : PrefixState) :
    legacyEnd ps = { ps with space := .Legacy, mp := legacyMp ps.rep ps.opsize, W := (legacyEnd ps).W,
                             R := (legacyEnd ps).R, X := (legacyEnd ps).X, B := (legacyEnd ps).B } := by
  unfold legacyEnd; split <;> rfl

/-! ### The opcode -/

/-- Where the cursor is after one read, and which byte stands before it. -/
theorem one_read (w : List Byte) (r : Regs) (o : Byte) (h : r.pos.val < 15) (ho : w[r.pos.val]? = some o) :
    r.pos.val < (r.pos + 1).val ∧ (r.pos + 1).val ≤ r.pos.val + 2 ∧ w[(r.pos + 1).val - 1]? = some o := by
  rw [cursor_succ _ h]; exact ⟨by omega, by omega, by simpa using ho⟩

/-- Where the cursor is after two reads, and which byte stands before it. -/
theorem two_reads (w : List Byte) (r : Regs) (o : Byte) (h : r.pos.val < 15) (h1 : (r.pos + 1).val < 15)
    (ho : w[(r.pos + 1).val]? = some o) :
    r.pos.val < (r.pos + 1 + 1).val ∧ (r.pos + 1 + 1).val ≤ r.pos.val + 2 ∧ w[(r.pos + 1 + 1).val - 1]? = some o := by
  have h2 := cursor_succ _ h1
  rw [cursor_succ _ h] at h1 ho h2
  rw [h2]; exact ⟨by omega, by omega, by simpa using ho⟩

/-- R130: what the opcode bytes give: one or two bytes are read, `opc` is set, and of `ps` only `map` changes. -/
theorem readOpcode_ok (w : List Byte) (r r' : Regs) (h : readOpcode w r = .ok r') :
    ∃ o, r' = { r with pos := r'.pos, ps := { r.ps with map := r'.ps.map }, opc := some o } ∧
      r.pos.val < r'.pos.val ∧ r'.pos.val ≤ r.pos.val + 2 ∧ w[r'.pos.val - 1]? = some o := by
  unfold readOpcode at h
  split at h
  · split at h
    · unfold readLegacyOpcode at h
      split at h
      · cases h
      · rename_i o2 r1 hr
        obtain ⟨h1, h2, rfl⟩ := (readByte_eq_ok _ _ _ _).mp hr
        split at h
        · split at h
          · cases h
          · rename_i o r2 hr2
            obtain ⟨h3, h4, rfl⟩ := (readByte_eq_ok _ _ _ _).mp hr2
            cases h
            exact ⟨o, rfl, two_reads w r o h1 h3 h4⟩
        · split at h
          · split at h
            · cases h
            · rename_i o r2 hr2
              obtain ⟨h3, h4, rfl⟩ := (readByte_eq_ok _ _ _ _).mp hr2
              cases h
              exact ⟨o, rfl, two_reads w r o h1 h3 h4⟩
          · cases h
            exact ⟨o2, rfl, one_read w r o2 h1 h2⟩
    · cases h
  · split at h
    · cases h
    · rename_i o r1 hr
      obtain ⟨h1, h2, rfl⟩ := (readByte_eq_ok _ _ _ _).mp hr
      cases h
      exact ⟨o, rfl, one_read w r o h1 h2⟩

/-- R132 to R134: what the lookup gives: a key with rows, no LOCK on a legacy row, and a family at once where no ModRM byte
follows. -/
theorem lookupEntry_ok (r r' : Regs) (h : lookupEntry r = .ok r') :
    entryOf r ≠ [] ∧ (r.ps.space = .Legacy → r.ps.lock = false) ∧
      ((needsModRM (entryOf r) = true ∧ r' = { r with entry := some (entryOf r) }) ∨
        (needsModRM (entryOf r) = false ∧ ∃ f, select (entryOf r) none r.ps.W = some f ∧
          r' = { r with entry := some (entryOf r), fam := some f })) := by
  unfold lookupEntry at h
  split at h
  · cases h
  · rename_i he
    split at h
    · cases h
    · rename_i hl
      refine ⟨by simpa using he, by simpa using hl, ?_⟩
      split at h
      · cases h; exact .inl ⟨‹_›, rfl⟩
      · rename_i hn
        split at h
        · cases h
        · rename_i f hf
          cases h
          exact .inr ⟨by simpa using hn, f, hf, rfl⟩

/-- R142: what the opcode lookup gives. -/
theorem opcodeLookup_ok (w : List Byte) (r r' : Regs) (h : opcodeLookup w r = .ok r') :
    ∃ r1, readOpcode w r = .ok r1 ∧ lookupEntry r1 = .ok r' := by
  unfold opcodeLookup at h
  split at h
  · cases h
  · exact ⟨_, ‹_›, h⟩

/-! ### ModRM, SIB, displacement, immediate -/

/-- R157: what reading the SIB byte gives. -/
theorem readSib_ok (w : List Byte) (as : AddrSize) (rm : BitVec 3) (r r' : Regs) (h : readSib w as rm r = .ok r') :
    (needsSib as rm = true ∧ ∃ b, r.pos.val < 15 ∧ w[r.pos.val]? = some b ∧ r' = { r with pos := r.pos + 1, sib := some b }) ∨
      (needsSib as rm = false ∧ r' = r) := by
  unfold readSib at h
  split at h
  · split at h
    · cases h
    · rename_i b r1 hr
      obtain ⟨h1, h2, rfl⟩ := (readByte_eq_ok _ _ _ _).mp hr
      cases h
      exact .inl ⟨‹_›, b, h1, h2, rfl⟩
  · rename_i hn
    cases h; exact .inr ⟨by simpa using hn, rfl⟩

/-- R167: what reading the imm8 gives. -/
theorem readImm_ok (w : List Byte) (has : Bool) (r r' : Regs) (h : readImm w has r = .ok r') :
    (has = true ∧ ∃ b, r.pos.val < 15 ∧ w[r.pos.val]? = some b ∧ r' = { r with pos := r.pos + 1, imm := some b }) ∨
      (has = false ∧ r' = r) := by
  unfold readImm at h
  split at h
  · split at h
    · cases h
    · rename_i b r1 hr
      obtain ⟨h1, h2, rfl⟩ := (readByte_eq_ok _ _ _ _).mp hr
      cases h
      exact .inl ⟨‹_›, b, h1, h2, rfl⟩
  · rename_i hn
    cases h; exact .inr ⟨by simpa using hn, rfl⟩

/-- R162: what reading a displacement of 0, 1, 2 or 4 bytes gives: the cursor goes past it, `disp_raw` alone changes. -/
theorem readDisp_ok (w : List Byte) (size : Nat) (r r' : Regs) (hs : size ∈ [0, 1, 2, 4])
    (h : readDisp w size r = .ok r') :
    r' = { r with pos := r'.pos, dispRaw := r'.dispRaw } ∧ r'.pos.val = r.pos.val + size := by
  simp only [List.mem_cons, List.not_mem_nil, or_false] at hs
  rcases hs with rfl | rfl | rfl | rfl
  · cases h; exact ⟨rfl, rfl⟩
  · simp only [readDisp] at h
    split at h
    · cases h
    · rename_i b0 r1 hr
      obtain ⟨h1, -, rfl⟩ := (readByte_eq_ok _ _ _ _).mp hr
      cases h; exact ⟨rfl, cursor_succ _ h1⟩
  · simp only [readDisp] at h
    split at h
    · cases h
    · rename_i b0 r1 hr
      obtain ⟨h1, -, rfl⟩ := (readByte_eq_ok _ _ _ _).mp hr
      split at h
      · cases h
      · rename_i b1 r2 hr2
        obtain ⟨h2, -, rfl⟩ := (readByte_eq_ok _ _ _ _).mp hr2
        have e1 := cursor_succ _ h1
        have e2 := cursor_succ _ h2
        cases h; exact ⟨rfl, by simp only at e2 ⊢; omega⟩
  · simp only [readDisp] at h
    split at h
    · cases h
    · rename_i b0 r1 hr
      obtain ⟨h1, -, rfl⟩ := (readByte_eq_ok _ _ _ _).mp hr
      split at h
      · cases h
      · rename_i b1 r2 hr2
        obtain ⟨h2, -, rfl⟩ := (readByte_eq_ok _ _ _ _).mp hr2
        split at h
        · cases h
        · rename_i b2 r3 hr3
          obtain ⟨h3, -, rfl⟩ := (readByte_eq_ok _ _ _ _).mp hr3
          split at h
          · cases h
          · rename_i b3 r4 hr4
            obtain ⟨h4, -, rfl⟩ := (readByte_eq_ok _ _ _ _).mp hr4
            have e1 := cursor_succ _ h1
            have e2 := cursor_succ _ h2
            have e3 := cursor_succ _ h3
            have e4 := cursor_succ _ h4
            cases h; exact ⟨rfl, by simp only at e2 e3 e4 ⊢; omega⟩

/-- R151 to R162: what the memory form of the rm operand gives. -/
theorem readMemory_ok (bt : Bitness) (w : List Byte) (m : Byte) (r r' : Regs) (h : readMemory bt w m r = .ok r') :
    ∃ r1, readSib w (addrSize bt r.ps.adsize) (rmField m) r = .ok r1 ∧
      readDisp w (dispSizeOf (addrSize bt r1.ps.adsize) (modField m) (rmField m) r1.sib)
        { r1 with
          md := some (memWork bt (addrSize bt r1.ps.adsize) r1.ps.X r1.ps.B (modField m) (rmField m) r1.sib)
          dispSize := dispSizeOf (addrSize bt r1.ps.adsize) (modField m) (rmField m) r1.sib } = .ok r' := by
  unfold readMemory at h
  split at h
  · cases h
  · exact ⟨_, ‹_›, h⟩

/-- R150, R153, R168: what the operand bytes after ModRM give: a register form, or a memory form of a row that has one; then
the imm8. -/
theorem readOperands_ok (bt : Bitness) (w : List Byte) (m : Byte) (sh : Shape) (r r' : Regs)
    (h : readOperands bt w m sh r = .ok r') :
    (modField m = 3 ∧ readImm w sh.hasImm8 r = .ok r') ∨
      (modField m ≠ 3 ∧ sh.rmRegOnly = false ∧
        ∃ r1, readMemory bt w m r = .ok r1 ∧ readImm w sh.hasImm8 r1 = .ok r') := by
  unfold readOperands at h
  split at h
  · exact .inl ⟨‹_›, h⟩
  · split at h
    · cases h
    · rename_i hr
      split at h
      · cases h
      · exact .inr ⟨‹_›, by simpa using hr, _, ‹_›, h⟩

/-- R169: what the ModRM state gives: the ModRM byte, the family it selects, the operand bytes. -/
theorem modrmState_ok (bt : Bitness) (w : List Byte) (r r' : Regs) (h : modrmState bt w r = .ok r') :
    ∃ m f rw, r.pos.val < 15 ∧ w[r.pos.val]? = some m ∧
      select (r.entry.getD []) (some (regField m)) r.ps.W = some f ∧ famRow (some f) = some rw ∧
      readOperands bt w m rw.shape { r with pos := r.pos + 1, modrm := some m, fam := some f } = .ok r' := by
  unfold modrmState at h
  split at h
  · cases h
  · rename_i m r1 hr
    obtain ⟨h1, h2, rfl⟩ := (readByte_eq_ok _ _ _ _).mp hr
    split at h
    · cases h
    · rename_i f hf
      split at h
      · cases h
      · exact ⟨m, f, _, h1, h2, hf, ‹_›, h⟩

/-- R210: what the three reading states give. -/
theorem scanRegs_ok (order : RexOrder) (bt : Bitness) (w : List Byte) (r : Regs) (h : scanRegs order bt w = .ok r) :
    ∃ r1 r2, prefixScan order bt w Regs.initial = .ok r1 ∧ opcodeLookup w r1 = .ok r2 ∧
      ((needsModRM (r2.entry.getD []) = true ∧ modrmState bt w r2 = .ok r) ∨
        (needsModRM (r2.entry.getD []) = false ∧ r = r2)) := by
  unfold scanRegs at h
  split at h
  · cases h
  · rename_i r1 h1
    split at h
    · cases h
    · rename_i r2 h2
      split at h
      · exact ⟨r1, r2, h1, h2, .inl ⟨‹_›, h⟩⟩
      · rename_i hn
        cases h
        exact ⟨r1, _, h1, h2, .inr ⟨by simpa using hn, rfl⟩⟩

end Sys2Proof
end

