-- ==== Sys2Proof/Laws/Memory.lean ====
section
/-! SUPPORT. The laws of the buffer (spec/20_memory.md R50 to R52): what a read of a stored byte sequence gives, and that
every memory operation keeps the canonical form `Memory.wf`. -/

namespace Sys2Proof.Machine

open Sys2Proof

/-- Reading from cells that start at `k`: the byte at the distance from `k`. -/
theorem Memory.read_cellsFrom (bs : List Byte) (k a : Nat) :
    (Memory.cellsFrom k bs).read a = if k ≤ a then bs[a - k]? else none := by
  induction bs generalizing k with
  | nil => simp [Memory.cellsFrom, Memory.read]
  | cons b t ih =>
    simp only [Memory.cellsFrom, Memory.read, ih]
    by_cases h : k = a
    · subst h; simp
    · by_cases h1 : k + 1 ≤ a
      · have h2 : a - k = (a - (k + 1)) + 1 := by omega
        simp [h, h1, h2, show k ≤ a by omega]
      · simp [h, h1, show ¬ k ≤ a by omega]

/-- R50: the buffer of a byte sequence reads as the sequence. -/
@[simp] theorem Memory.read_ofBytes (bs : List Byte) (a : Nat) : (Memory.ofBytes bs).read a = bs[a]? := by
  simp [Memory.ofBytes, Memory.read_cellsFrom]

/-- The cells of a byte sequence are in order. -/
theorem Memory.wfFrom_cellsFrom (bs : List Byte) (k : Nat) : Memory.wfFrom k (Memory.cellsFrom k bs) = true := by
  induction bs generalizing k with
  | nil => rfl
  | cons b t ih => simp [Memory.cellsFrom, Memory.wfFrom, ih]

/-- `ofBytes` gives the canonical form. -/
@[simp] theorem Memory.wf_ofBytes (bs : List Byte) : (Memory.ofBytes bs).wf = true := Memory.wfFrom_cellsFrom bs 0

/-- `overlay` gives the canonical form. -/
@[simp] theorem Memory.wf_overlay (m : Memory) (a : Nat) (bs : List Byte) : (m.overlay a bs).wf = true :=
  Memory.wf_ofBytes _

/-- Cells in order are the cells of their bytes. -/
theorem Memory.eq_cellsFrom_of_wfFrom (m : Memory) (k : Nat) (h : Memory.wfFrom k m = true) :
    m = Memory.cellsFrom k (m.map Prod.snd) := by
  induction m generalizing k with
  | nil => rfl
  | cons c t ih =>
    obtain ⟨a, v⟩ := c
    simp only [Memory.wfFrom, Bool.and_eq_true, decide_eq_true_eq] at h
    obtain ⟨rfl, ht⟩ := h
    simp only [List.map_cons, Memory.cellsFrom]
    rw [← ih (a + 1) ht]

/-- Every buffer in canonical form is the buffer of a byte sequence. -/
theorem Memory.eq_ofBytes_of_wf (m : Memory) (h : m.wf = true) : m = Memory.ofBytes (m.map Prod.snd) :=
  Memory.eq_cellsFrom_of_wfFrom m 0 h

/-- The number of cells is the number of bytes. -/
theorem Memory.length_cellsFrom (bs : List Byte) (k : Nat) : (Memory.cellsFrom k bs).length = bs.length := by
  induction bs generalizing k with
  | nil => rfl
  | cons b t ih => simp [Memory.cellsFrom, ih]

@[simp] theorem Memory.length_ofBytes (bs : List Byte) : (Memory.ofBytes bs).length = bs.length :=
  Memory.length_cellsFrom bs 0

/-- The bytes of a stored sequence from an address on. -/
theorem Memory.bytesFrom_ofBytes (bs : List Byte) (a n : Nat) :
    (Memory.ofBytes bs).bytesFrom a n = (bs.drop a).take n := by
  induction n generalizing a with
  | zero => simp [Memory.bytesFrom]
  | succ n ih =>
    simp only [Memory.bytesFrom, Memory.read_ofBytes]
    by_cases h : a < bs.length
    · rw [List.getElem?_eq_getElem h, List.drop_eq_getElem_cons h, List.take_succ_cons, ← ih]
    · rw [List.getElem?_eq_none (by omega), List.drop_eq_nil_of_le (by omega)]; simp

/-- R52: the window of a supplied buffer is its bytes from the offset on. -/
theorem State.window_ofBytes (s : State) (bs : List Byte) (h : s.buffer = Memory.ofBytes bs) :
    s.window = bs.drop s.startOffset := by
  unfold State.window
  rw [h, Memory.bytesFrom_ofBytes, Memory.length_ofBytes, List.take_of_length_le]
  simp

/-- R24: in a canonical buffer, the window has `len - start_offset` bytes (0 where the offset is past the end). -/
theorem State.window_length (s : State) (h : s.buffer.wf = true) :
    s.window.length = s.buffer.length - s.startOffset := by
  rw [State.window_ofBytes s _ (Memory.eq_ofBytes_of_wf _ h)]; simp

/-- A read of an overlaid buffer inside the overlay gives the overlay's byte. -/
theorem Memory.read_overlay (m : Memory) (a i : Nat) (bs : List Byte) (hi : i < bs.length) :
    (m.overlay a bs).read (a + i) = bs[i]? := by
  have hl : ((m.bytesFrom 0 m.length ++ List.replicate a 0).take a).length = a := by simp
  simp only [Memory.overlay, Memory.read_ofBytes, List.append_assoc]
  rw [List.getElem?_append_right (by omega), hl, List.getElem?_append_left (by omega)]
  congr 1; omega

/-- Reset's buffer is canonical. -/
theorem State.reset_buffer_wf : State.reset.buffer.wf = true := rfl

end Sys2Proof.Machine
end

