-- ==== Sys2Proof/Laws/Operands.lean ====
section
/-! SUPPORT. What the operand forms are, once for each: the registers by their index (spec/43_vex_evex_fields.md R194), the
memory operand, the displacement, and the prefix state that each meaning starts from, field by field. -/

namespace Sys2Proof.Machine

open Sys2Proof

/-! ### Registers -/

/-- R194: the index of a register with two extension bits. -/
theorem foldedIndex (hi lo : Bool) (v : BitVec 3) :
    (BitVec.ofBool hi ++ BitVec.ofBool lo ++ v : BitVec 5) = BitVec.ofNat 5 (16 * hi.toNat + 8 * lo.toNat + v.toNat) := by
  revert hi lo v; decide

/-- R194: the index of a vvvv register. -/
theorem foldedVvvv (hi : Bool) (v : BitVec 4) :
    (BitVec.ofBool hi ++ BitVec.ofBool (v.getLsbD 3) ++ v.extractLsb' 0 3 : BitVec 5) =
      BitVec.ofNat 5 (16 * hi.toNat + v.toNat) := by
  revert hi v; decide

/-- R117: the vvvv field outside 64-bit bitness. -/
theorem maskedVvvv (v : BitVec 4) : (v &&& 7).toNat = v.toNat % 8 := by revert v; decide

/-- R164: the index of a base or index register. -/
theorem foldedAddr (e : Bool) (v : BitVec 3) :
    (BitVec.ofBool e ++ v : BitVec 4) = BitVec.ofNat 4 (8 * e.toNat + v.toNat) := by
  revert e v; decide

/-- R194: an MM register has no extension bit. -/
@[simp] theorem vectorReg_mm (hi lo : Bool) (v : BitVec 3) : vectorReg .MM hi lo v = .mm v := rfl

/-! ### The memory operand -/

@[simp] theorem memWork_as (bt : Bitness) (as : AddrSize) (X B : Bool) (mod : BitVec 2) (rm : BitVec 3) (sib : Option Byte) :
    (memWork bt as X B mod rm sib).as = as := by
  unfold memWork memWork16 memWork32; cases as <;> simp only [] <;> split <;> rfl

/-- R154, R163: 16-bit addressing has scale 1. -/
@[simp] theorem memWork_scale16 (bt : Bitness) (X B : Bool) (mod : BitVec 2) (rm : BitVec 3) (sib : Option Byte) :
    (memWork bt .a16 X B mod rm sib).scale = 1 := by
  unfold memWork memWork16; simp only []; split <;> rfl

/-- R155, R161: a displacement has 0, 1, 2 or 4 bytes. -/
theorem dispSizeOf_mem (as : AddrSize) (mod : BitVec 2) (rm : BitVec 3) (sib : Option Byte) :
    dispSizeOf as mod rm sib ∈ [0, 1, 2, 4] := by
  unfold dispSizeOf; cases as <;> simp only [] <;> split <;> (try split) <;> (try split) <;> simp

/-- R27: an encoded displacement has 0, 1, 2 or 4 bytes. -/
theorem dispSize_mem (d : Disp) : dispSize d ∈ [0, 1, 2, 4] := by cases d <;> simp [dispSize]

/-- R162: a displacement is what its size and its sign-extended value say. -/
@[simp] theorem dispOf_dispRaw (d : Disp) : dispOf (dispSize d) (dispRaw d) = d := by
  cases d <;> simp [dispOf, dispSize, dispRaw]

/-! ### The prefix states -/

/-- R104: the low bits of a REX byte. -/
theorem rexByte_bit (v : BitVec 4) (i : Nat) (h : i < 4) : ((4 : BitVec 4) ++ v : BitVec 8).getLsbD i = v.getLsbD i := by
  rw [BitVec.getLsbD_append, if_pos h]

/-- R104, R118, R130: the prefix state of a legacy instruction, field by field. -/
theorem legacyState_eq (m : OpMap) (p : LegacyPrefix) :
    legacyState m p =
      { PrefixState.initial with
        seg := p.seg, opsize := p.opsize, adsize := p.adsize, lock := p.lock, rep := p.rep,
        rex := p.rex.map fun v => (4 : BitVec 4) ++ v, map := some m, mp := legacyMp p.rep p.opsize,
        W := (p.rex.getD 0).getLsbD 3, R := (p.rex.getD 0).getLsbD 2, X := (p.rex.getD 0).getLsbD 1,
        B := (p.rex.getD 0).getLsbD 0 } := by
  unfold legacyState legacyEnd
  cases p.rex with
  | none => simp [PrefixState.initial]
  | some v =>
    simp only [Option.map_some, Option.getD_some, rexByte_bit v 3 (by decide), rexByte_bit v 2 (by decide),
      rexByte_bit v 1 (by decide), rexByte_bit v 0 (by decide), PrefixState.initial]

/-- R111, R112, R117, R119: the prefix state of a VEX instruction, field by field. -/
theorem vexState_eq (bt : Bitness) (m : OpMap) (mp : Mp) (L : Bool) (p : VexPrefix) :
    vexState bt m mp L p =
      { PrefixState.initial with
        seg := p.seg, adsize := p.adsize, space := if p.three then .VEX3 else .VEX2, W := p.W
        R := decide (bt = .b64) && p.R, X := decide (bt = .b64) && p.X, B := decide (bt = .b64) && p.B
        vvvvRaw := p.vvvv, vvvv := if bt = .b64 then p.vvvv else p.vvvv &&& 7, L := L, pp := mpKeyBits mp
        mp := ppMp (mpKeyBits mp), map := some m } := by
  cases bt <;> rfl

/-- R114, R117, R119: the prefix state of an EVEX instruction, field by field. -/
theorem evexPrefixState_eq (bt : Bitness) (m : OpMap) (mp : Mp) (ll : BitVec 2) (p : EvexPrefix) :
    evexPrefixState bt m mp ll p =
      { PrefixState.initial with
        seg := p.seg, adsize := p.adsize, space := .EVEX, W := p.W
        R := decide (bt = .b64) && p.R, X := decide (bt = .b64) && p.X, B := decide (bt = .b64) && p.B
        Rp := decide (bt = .b64) && p.Rp, Vp := decide (bt = .b64) && p.Vp, VpRaw := p.Vp
        vvvvRaw := p.vvvv, vvvv := if bt = .b64 then p.vvvv else p.vvvv &&& 7, LL := ll, pp := mpKeyBits mp
        mp := ppMp (mpKeyBits mp), z := p.z, b := p.b, aaa := p.aaa, map := some m } := by
  cases bt <;> rfl

/-- R119: the bits of a mandatory prefix stand for it. -/
@[simp] theorem ppMp_mpKeyBits (mp : Mp) : ppMp (mpKeyBits mp) = mp := by cases mp <;> rfl

/-! ### The record -/

/-- R46, R211 to R216: the record of a form with a register rm operand. -/
theorem assemble_reg (f : Form) (p : Pieces) (h : p.md = none) :
    assemble f p = { assembleBase f p with roundingControl := p.vf.rc, suppressAllExceptions := p.vf.sae } := by
  unfold assemble withRounding; rw [h]

/-- R46, R211 to R216: the record of a form with a memory operand: no rounding, and the memory descriptor. -/
theorem assemble_mem (f : Form) (p : Pieces) (md : MemWork) (h : p.md = some md) :
    assemble f p = withMemory f p md { assembleBase f p with roundingControl := .None, suppressAllExceptions := false } := by
  unfold assemble withRounding; rw [h]

/-- R120, R215: where the mandatory prefix is what R118 makes of the repeat prefix, neither repeat flag is set. -/
theorem repFlags_of_legacyMp (ps : PrefixState) (h : ps.mp = legacyMp ps.rep ps.opsize) :
    hasRepe ps = false ∧ hasRepne ps = false := by
  unfold hasRepe hasRepne; rw [h]
  cases ps.rep with
  | none => simp
  | some x => cases x <;> simp [legacyMp]

end Sys2Proof.Machine
end

