-- ==== Sys2Proof/Laws/PerInstr.lean ====
section
/-! SUPPORT. The family `Rebuild` of LAWS.json: an instruction is built back from its Code and its operand fields, so that
`Instr.code` and `Instr.bundle` together drop nothing of it. -/

namespace Sys2Proof.Laws

open Sys2Proof

/-- The Code and the operand fields of an instruction determine it. -/
def Rebuild.Statement (i : Instr) : Prop := build i.code i.bundle = i

theorem Rebuild.Pshufw_mm_mmm64_imm8 (p : LegacyPrefix) (reg : BitVec 3) (rm : RMOperand) (ib : Byte) :
    Rebuild.Statement (.Pshufw_mm_mmm64_imm8 p reg rm ib) := rfl

theorem Rebuild.Pshufd_xmm_xmmm128_imm8 (p : LegacyPrefix) (reg : BitVec 3) (rm : RMOperand) (ib : Byte) :
    Rebuild.Statement (.Pshufd_xmm_xmmm128_imm8 p reg rm ib) := rfl

theorem Rebuild.Pshufhw_xmm_xmmm128_imm8 (p : LegacyPrefix) (reg : BitVec 3) (rm : RMOperand) (ib : Byte) :
    Rebuild.Statement (.Pshufhw_xmm_xmmm128_imm8 p reg rm ib) := rfl

theorem Rebuild.Pshuflw_xmm_xmmm128_imm8 (p : LegacyPrefix) (reg : BitVec 3) (rm : RMOperand) (ib : Byte) :
    Rebuild.Statement (.Pshuflw_xmm_xmmm128_imm8 p reg rm ib) := rfl

theorem Rebuild.Psrlw_mm_imm8 (p : LegacyPrefix) (rm : BitVec 3) (ib : Byte) :
    Rebuild.Statement (.Psrlw_mm_imm8 p rm ib) := rfl

theorem Rebuild.Psrlw_xmm_imm8 (p : LegacyPrefix) (rm : BitVec 3) (ib : Byte) :
    Rebuild.Statement (.Psrlw_xmm_imm8 p rm ib) := rfl

theorem Rebuild.Psraw_mm_imm8 (p : LegacyPrefix) (rm : BitVec 3) (ib : Byte) :
    Rebuild.Statement (.Psraw_mm_imm8 p rm ib) := rfl

theorem Rebuild.Psraw_xmm_imm8 (p : LegacyPrefix) (rm : BitVec 3) (ib : Byte) :
    Rebuild.Statement (.Psraw_xmm_imm8 p rm ib) := rfl

theorem Rebuild.Psllw_mm_imm8 (p : LegacyPrefix) (rm : BitVec 3) (ib : Byte) :
    Rebuild.Statement (.Psllw_mm_imm8 p rm ib) := rfl

theorem Rebuild.Psllw_xmm_imm8 (p : LegacyPrefix) (rm : BitVec 3) (ib : Byte) :
    Rebuild.Statement (.Psllw_xmm_imm8 p rm ib) := rfl

theorem Rebuild.Psrld_mm_imm8 (p : LegacyPrefix) (rm : BitVec 3) (ib : Byte) :
    Rebuild.Statement (.Psrld_mm_imm8 p rm ib) := rfl

theorem Rebuild.Psrld_xmm_imm8 (p : LegacyPrefix) (rm : BitVec 3) (ib : Byte) :
    Rebuild.Statement (.Psrld_xmm_imm8 p rm ib) := rfl

theorem Rebuild.Psrad_mm_imm8 (p : LegacyPrefix) (rm : BitVec 3) (ib : Byte) :
    Rebuild.Statement (.Psrad_mm_imm8 p rm ib) := rfl

theorem Rebuild.Psrad_xmm_imm8 (p : LegacyPrefix) (rm : BitVec 3) (ib : Byte) :
    Rebuild.Statement (.Psrad_xmm_imm8 p rm ib) := rfl

theorem Rebuild.Pslld_mm_imm8 (p : LegacyPrefix) (rm : BitVec 3) (ib : Byte) :
    Rebuild.Statement (.Pslld_mm_imm8 p rm ib) := rfl

theorem Rebuild.Pslld_xmm_imm8 (p : LegacyPrefix) (rm : BitVec 3) (ib : Byte) :
    Rebuild.Statement (.Pslld_xmm_imm8 p rm ib) := rfl

theorem Rebuild.Psrlq_mm_imm8 (p : LegacyPrefix) (rm : BitVec 3) (ib : Byte) :
    Rebuild.Statement (.Psrlq_mm_imm8 p rm ib) := rfl

theorem Rebuild.Psrlq_xmm_imm8 (p : LegacyPrefix) (rm : BitVec 3) (ib : Byte) :
    Rebuild.Statement (.Psrlq_xmm_imm8 p rm ib) := rfl

theorem Rebuild.Psrldq_xmm_imm8 (p : LegacyPrefix) (rm : BitVec 3) (ib : Byte) :
    Rebuild.Statement (.Psrldq_xmm_imm8 p rm ib) := rfl

theorem Rebuild.Psllq_mm_imm8 (p : LegacyPrefix) (rm : BitVec 3) (ib : Byte) :
    Rebuild.Statement (.Psllq_mm_imm8 p rm ib) := rfl

theorem Rebuild.Psllq_xmm_imm8 (p : LegacyPrefix) (rm : BitVec 3) (ib : Byte) :
    Rebuild.Statement (.Psllq_xmm_imm8 p rm ib) := rfl

theorem Rebuild.Pslldq_xmm_imm8 (p : LegacyPrefix) (rm : BitVec 3) (ib : Byte) :
    Rebuild.Statement (.Pslldq_xmm_imm8 p rm ib) := rfl

theorem Rebuild.Pcmpeqb_mm_mmm64 (p : LegacyPrefix) (reg : BitVec 3) (rm : RMOperand) :
    Rebuild.Statement (.Pcmpeqb_mm_mmm64 p reg rm) := rfl

theorem Rebuild.Pcmpeqb_xmm_xmmm128 (p : LegacyPrefix) (reg : BitVec 3) (rm : RMOperand) :
    Rebuild.Statement (.Pcmpeqb_xmm_xmmm128 p reg rm) := rfl

theorem Rebuild.Pcmpeqw_mm_mmm64 (p : LegacyPrefix) (reg : BitVec 3) (rm : RMOperand) :
    Rebuild.Statement (.Pcmpeqw_mm_mmm64 p reg rm) := rfl

theorem Rebuild.Pcmpeqw_xmm_xmmm128 (p : LegacyPrefix) (reg : BitVec 3) (rm : RMOperand) :
    Rebuild.Statement (.Pcmpeqw_xmm_xmmm128 p reg rm) := rfl

theorem Rebuild.Pcmpeqd_mm_mmm64 (p : LegacyPrefix) (reg : BitVec 3) (rm : RMOperand) :
    Rebuild.Statement (.Pcmpeqd_mm_mmm64 p reg rm) := rfl

theorem Rebuild.Pcmpeqd_xmm_xmmm128 (p : LegacyPrefix) (reg : BitVec 3) (rm : RMOperand) :
    Rebuild.Statement (.Pcmpeqd_xmm_xmmm128 p reg rm) := rfl

theorem Rebuild.Emms (p : LegacyPrefix) :
    Rebuild.Statement (.Emms p) := rfl

theorem Rebuild.VEX_Vpshufd_xmm_xmmm128_imm8 (p : VexPrefix) (reg : BitVec 3) (rm : RMOperand) (ib : Byte) :
    Rebuild.Statement (.VEX_Vpshufd_xmm_xmmm128_imm8 p reg rm ib) := rfl

theorem Rebuild.VEX_Vpshufd_ymm_ymmm256_imm8 (p : VexPrefix) (reg : BitVec 3) (rm : RMOperand) (ib : Byte) :
    Rebuild.Statement (.VEX_Vpshufd_ymm_ymmm256_imm8 p reg rm ib) := rfl

theorem Rebuild.VEX_Vpshufhw_xmm_xmmm128_imm8 (p : VexPrefix) (reg : BitVec 3) (rm : RMOperand) (ib : Byte) :
    Rebuild.Statement (.VEX_Vpshufhw_xmm_xmmm128_imm8 p reg rm ib) := rfl

theorem Rebuild.VEX_Vpshufhw_ymm_ymmm256_imm8 (p : VexPrefix) (reg : BitVec 3) (rm : RMOperand) (ib : Byte) :
    Rebuild.Statement (.VEX_Vpshufhw_ymm_ymmm256_imm8 p reg rm ib) := rfl

theorem Rebuild.VEX_Vpshuflw_xmm_xmmm128_imm8 (p : VexPrefix) (reg : BitVec 3) (rm : RMOperand) (ib : Byte) :
    Rebuild.Statement (.VEX_Vpshuflw_xmm_xmmm128_imm8 p reg rm ib) := rfl

theorem Rebuild.VEX_Vpshuflw_ymm_ymmm256_imm8 (p : VexPrefix) (reg : BitVec 3) (rm : RMOperand) (ib : Byte) :
    Rebuild.Statement (.VEX_Vpshuflw_ymm_ymmm256_imm8 p reg rm ib) := rfl

theorem Rebuild.VEX_Vpsrlw_xmm_xmm_imm8 (p : VexPrefix) (rm : BitVec 3) (ib : Byte) :
    Rebuild.Statement (.VEX_Vpsrlw_xmm_xmm_imm8 p rm ib) := rfl

theorem Rebuild.VEX_Vpsrlw_ymm_ymm_imm8 (p : VexPrefix) (rm : BitVec 3) (ib : Byte) :
    Rebuild.Statement (.VEX_Vpsrlw_ymm_ymm_imm8 p rm ib) := rfl

theorem Rebuild.VEX_Vpsraw_xmm_xmm_imm8 (p : VexPrefix) (rm : BitVec 3) (ib : Byte) :
    Rebuild.Statement (.VEX_Vpsraw_xmm_xmm_imm8 p rm ib) := rfl

theorem Rebuild.VEX_Vpsraw_ymm_ymm_imm8 (p : VexPrefix) (rm : BitVec 3) (ib : Byte) :
    Rebuild.Statement (.VEX_Vpsraw_ymm_ymm_imm8 p rm ib) := rfl

theorem Rebuild.VEX_Vpsllw_xmm_xmm_imm8 (p : VexPrefix) (rm : BitVec 3) (ib : Byte) :
    Rebuild.Statement (.VEX_Vpsllw_xmm_xmm_imm8 p rm ib) := rfl

theorem Rebuild.VEX_Vpsllw_ymm_ymm_imm8 (p : VexPrefix) (rm : BitVec 3) (ib : Byte) :
    Rebuild.Statement (.VEX_Vpsllw_ymm_ymm_imm8 p rm ib) := rfl

theorem Rebuild.VEX_Vpsrld_xmm_xmm_imm8 (p : VexPrefix) (rm : BitVec 3) (ib : Byte) :
    Rebuild.Statement (.VEX_Vpsrld_xmm_xmm_imm8 p rm ib) := rfl

theorem Rebuild.VEX_Vpsrld_ymm_ymm_imm8 (p : VexPrefix) (rm : BitVec 3) (ib : Byte) :
    Rebuild.Statement (.VEX_Vpsrld_ymm_ymm_imm8 p rm ib) := rfl

theorem Rebuild.VEX_Vpsrad_xmm_xmm_imm8 (p : VexPrefix) (rm : BitVec 3) (ib : Byte) :
    Rebuild.Statement (.VEX_Vpsrad_xmm_xmm_imm8 p rm ib) := rfl

theorem Rebuild.VEX_Vpsrad_ymm_ymm_imm8 (p : VexPrefix) (rm : BitVec 3) (ib : Byte) :
    Rebuild.Statement (.VEX_Vpsrad_ymm_ymm_imm8 p rm ib) := rfl

theorem Rebuild.VEX_Vpslld_xmm_xmm_imm8 (p : VexPrefix) (rm : BitVec 3) (ib : Byte) :
    Rebuild.Statement (.VEX_Vpslld_xmm_xmm_imm8 p rm ib) := rfl

theorem Rebuild.VEX_Vpslld_ymm_ymm_imm8 (p : VexPrefix) (rm : BitVec 3) (ib : Byte) :
    Rebuild.Statement (.VEX_Vpslld_ymm_ymm_imm8 p rm ib) := rfl

theorem Rebuild.VEX_Vpsrlq_xmm_xmm_imm8 (p : VexPrefix) (rm : BitVec 3) (ib : Byte) :
    Rebuild.Statement (.VEX_Vpsrlq_xmm_xmm_imm8 p rm ib) := rfl

theorem Rebuild.VEX_Vpsrlq_ymm_ymm_imm8 (p : VexPrefix) (rm : BitVec 3) (ib : Byte) :
    Rebuild.Statement (.VEX_Vpsrlq_ymm_ymm_imm8 p rm ib) := rfl

theorem Rebuild.VEX_Vpsrldq_xmm_xmm_imm8 (p : VexPrefix) (rm : BitVec 3) (ib : Byte) :
    Rebuild.Statement (.VEX_Vpsrldq_xmm_xmm_imm8 p rm ib) := rfl

theorem Rebuild.VEX_Vpsrldq_ymm_ymm_imm8 (p : VexPrefix) (rm : BitVec 3) (ib : Byte) :
    Rebuild.Statement (.VEX_Vpsrldq_ymm_ymm_imm8 p rm ib) := rfl

theorem Rebuild.VEX_Vpsllq_xmm_xmm_imm8 (p : VexPrefix) (rm : BitVec 3) (ib : Byte) :
    Rebuild.Statement (.VEX_Vpsllq_xmm_xmm_imm8 p rm ib) := rfl

theorem Rebuild.VEX_Vpsllq_ymm_ymm_imm8 (p : VexPrefix) (rm : BitVec 3) (ib : Byte) :
    Rebuild.Statement (.VEX_Vpsllq_ymm_ymm_imm8 p rm ib) := rfl

theorem Rebuild.VEX_Vpslldq_xmm_xmm_imm8 (p : VexPrefix) (rm : BitVec 3) (ib : Byte) :
    Rebuild.Statement (.VEX_Vpslldq_xmm_xmm_imm8 p rm ib) := rfl

theorem Rebuild.VEX_Vpslldq_ymm_ymm_imm8 (p : VexPrefix) (rm : BitVec 3) (ib : Byte) :
    Rebuild.Statement (.VEX_Vpslldq_ymm_ymm_imm8 p rm ib) := rfl

theorem Rebuild.VEX_Vpcmpeqb_xmm_xmm_xmmm128 (p : VexPrefix) (reg : BitVec 3) (rm : RMOperand) :
    Rebuild.Statement (.VEX_Vpcmpeqb_xmm_xmm_xmmm128 p reg rm) := rfl

theorem Rebuild.VEX_Vpcmpeqb_ymm_ymm_ymmm256 (p : VexPrefix) (reg : BitVec 3) (rm : RMOperand) :
    Rebuild.Statement (.VEX_Vpcmpeqb_ymm_ymm_ymmm256 p reg rm) := rfl

theorem Rebuild.VEX_Vpcmpeqw_xmm_xmm_xmmm128 (p : VexPrefix) (reg : BitVec 3) (rm : RMOperand) :
    Rebuild.Statement (.VEX_Vpcmpeqw_xmm_xmm_xmmm128 p reg rm) := rfl

theorem Rebuild.VEX_Vpcmpeqw_ymm_ymm_ymmm256 (p : VexPrefix) (reg : BitVec 3) (rm : RMOperand) :
    Rebuild.Statement (.VEX_Vpcmpeqw_ymm_ymm_ymmm256 p reg rm) := rfl

theorem Rebuild.VEX_Vpcmpeqd_xmm_xmm_xmmm128 (p : VexPrefix) (reg : BitVec 3) (rm : RMOperand) :
    Rebuild.Statement (.VEX_Vpcmpeqd_xmm_xmm_xmmm128 p reg rm) := rfl

theorem Rebuild.VEX_Vpcmpeqd_ymm_ymm_ymmm256 (p : VexPrefix) (reg : BitVec 3) (rm : RMOperand) :
    Rebuild.Statement (.VEX_Vpcmpeqd_ymm_ymm_ymmm256 p reg rm) := rfl

theorem Rebuild.VEX_Vzeroupper (p : VexPrefix) :
    Rebuild.Statement (.VEX_Vzeroupper p) := rfl

theorem Rebuild.VEX_Vzeroall (p : VexPrefix) :
    Rebuild.Statement (.VEX_Vzeroall p) := rfl

theorem Rebuild.EVEX_Vpshufd_xmm_k1z_xmmm128b32_imm8 (p : EvexPrefix) (reg : BitVec 3) (rm : RMOperand) (ib : Byte) :
    Rebuild.Statement (.EVEX_Vpshufd_xmm_k1z_xmmm128b32_imm8 p reg rm ib) := rfl

theorem Rebuild.EVEX_Vpshufd_ymm_k1z_ymmm256b32_imm8 (p : EvexPrefix) (reg : BitVec 3) (rm : RMOperand) (ib : Byte) :
    Rebuild.Statement (.EVEX_Vpshufd_ymm_k1z_ymmm256b32_imm8 p reg rm ib) := rfl

theorem Rebuild.EVEX_Vpshufd_zmm_k1z_zmmm512b32_imm8 (p : EvexPrefix) (reg : BitVec 3) (rm : RMOperand) (ib : Byte) :
    Rebuild.Statement (.EVEX_Vpshufd_zmm_k1z_zmmm512b32_imm8 p reg rm ib) := rfl

theorem Rebuild.EVEX_Vpshufhw_xmm_k1z_xmmm128_imm8 (p : EvexPrefix) (reg : BitVec 3) (rm : RMOperand) (ib : Byte) :
    Rebuild.Statement (.EVEX_Vpshufhw_xmm_k1z_xmmm128_imm8 p reg rm ib) := rfl

theorem Rebuild.EVEX_Vpshufhw_ymm_k1z_ymmm256_imm8 (p : EvexPrefix) (reg : BitVec 3) (rm : RMOperand) (ib : Byte) :
    Rebuild.Statement (.EVEX_Vpshufhw_ymm_k1z_ymmm256_imm8 p reg rm ib) := rfl

theorem Rebuild.EVEX_Vpshufhw_zmm_k1z_zmmm512_imm8 (p : EvexPrefix) (reg : BitVec 3) (rm : RMOperand) (ib : Byte) :
    Rebuild.Statement (.EVEX_Vpshufhw_zmm_k1z_zmmm512_imm8 p reg rm ib) := rfl

theorem Rebuild.EVEX_Vpshuflw_xmm_k1z_xmmm128_imm8 (p : EvexPrefix) (reg : BitVec 3) (rm : RMOperand) (ib : Byte) :
    Rebuild.Statement (.EVEX_Vpshuflw_xmm_k1z_xmmm128_imm8 p reg rm ib) := rfl

theorem Rebuild.EVEX_Vpshuflw_ymm_k1z_ymmm256_imm8 (p : EvexPrefix) (reg : BitVec 3) (rm : RMOperand) (ib : Byte) :
    Rebuild.Statement (.EVEX_Vpshuflw_ymm_k1z_ymmm256_imm8 p reg rm ib) := rfl

theorem Rebuild.EVEX_Vpshuflw_zmm_k1z_zmmm512_imm8 (p : EvexPrefix) (reg : BitVec 3) (rm : RMOperand) (ib : Byte) :
    Rebuild.Statement (.EVEX_Vpshuflw_zmm_k1z_zmmm512_imm8 p reg rm ib) := rfl

theorem Rebuild.EVEX_Vpsrlw_xmm_k1z_xmmm128_imm8 (p : EvexPrefix) (rm : RMOperand) (ib : Byte) :
    Rebuild.Statement (.EVEX_Vpsrlw_xmm_k1z_xmmm128_imm8 p rm ib) := rfl

theorem Rebuild.EVEX_Vpsrlw_ymm_k1z_ymmm256_imm8 (p : EvexPrefix) (rm : RMOperand) (ib : Byte) :
    Rebuild.Statement (.EVEX_Vpsrlw_ymm_k1z_ymmm256_imm8 p rm ib) := rfl

theorem Rebuild.EVEX_Vpsrlw_zmm_k1z_zmmm512_imm8 (p : EvexPrefix) (rm : RMOperand) (ib : Byte) :
    Rebuild.Statement (.EVEX_Vpsrlw_zmm_k1z_zmmm512_imm8 p rm ib) := rfl

theorem Rebuild.EVEX_Vpsraw_xmm_k1z_xmmm128_imm8 (p : EvexPrefix) (rm : RMOperand) (ib : Byte) :
    Rebuild.Statement (.EVEX_Vpsraw_xmm_k1z_xmmm128_imm8 p rm ib) := rfl

theorem Rebuild.EVEX_Vpsraw_ymm_k1z_ymmm256_imm8 (p : EvexPrefix) (rm : RMOperand) (ib : Byte) :
    Rebuild.Statement (.EVEX_Vpsraw_ymm_k1z_ymmm256_imm8 p rm ib) := rfl

theorem Rebuild.EVEX_Vpsraw_zmm_k1z_zmmm512_imm8 (p : EvexPrefix) (rm : RMOperand) (ib : Byte) :
    Rebuild.Statement (.EVEX_Vpsraw_zmm_k1z_zmmm512_imm8 p rm ib) := rfl

theorem Rebuild.EVEX_Vpsllw_xmm_k1z_xmmm128_imm8 (p : EvexPrefix) (rm : RMOperand) (ib : Byte) :
    Rebuild.Statement (.EVEX_Vpsllw_xmm_k1z_xmmm128_imm8 p rm ib) := rfl

theorem Rebuild.EVEX_Vpsllw_ymm_k1z_ymmm256_imm8 (p : EvexPrefix) (rm : RMOperand) (ib : Byte) :
    Rebuild.Statement (.EVEX_Vpsllw_ymm_k1z_ymmm256_imm8 p rm ib) := rfl

theorem Rebuild.EVEX_Vpsllw_zmm_k1z_zmmm512_imm8 (p : EvexPrefix) (rm : RMOperand) (ib : Byte) :
    Rebuild.Statement (.EVEX_Vpsllw_zmm_k1z_zmmm512_imm8 p rm ib) := rfl

theorem Rebuild.EVEX_Vprord_xmm_k1z_xmmm128b32_imm8 (p : EvexPrefix) (rm : RMOperand) (ib : Byte) :
    Rebuild.Statement (.EVEX_Vprord_xmm_k1z_xmmm128b32_imm8 p rm ib) := rfl

theorem Rebuild.EVEX_Vprord_ymm_k1z_ymmm256b32_imm8 (p : EvexPrefix) (rm : RMOperand) (ib : Byte) :
    Rebuild.Statement (.EVEX_Vprord_ymm_k1z_ymmm256b32_imm8 p rm ib) := rfl

theorem Rebuild.EVEX_Vprord_zmm_k1z_zmmm512b32_imm8 (p : EvexPrefix) (rm : RMOperand) (ib : Byte) :
    Rebuild.Statement (.EVEX_Vprord_zmm_k1z_zmmm512b32_imm8 p rm ib) := rfl

theorem Rebuild.EVEX_Vprorq_xmm_k1z_xmmm128b64_imm8 (p : EvexPrefix) (rm : RMOperand) (ib : Byte) :
    Rebuild.Statement (.EVEX_Vprorq_xmm_k1z_xmmm128b64_imm8 p rm ib) := rfl

theorem Rebuild.EVEX_Vprorq_ymm_k1z_ymmm256b64_imm8 (p : EvexPrefix) (rm : RMOperand) (ib : Byte) :
    Rebuild.Statement (.EVEX_Vprorq_ymm_k1z_ymmm256b64_imm8 p rm ib) := rfl

theorem Rebuild.EVEX_Vprorq_zmm_k1z_zmmm512b64_imm8 (p : EvexPrefix) (rm : RMOperand) (ib : Byte) :
    Rebuild.Statement (.EVEX_Vprorq_zmm_k1z_zmmm512b64_imm8 p rm ib) := rfl

theorem Rebuild.EVEX_Vprold_xmm_k1z_xmmm128b32_imm8 (p : EvexPrefix) (rm : RMOperand) (ib : Byte) :
    Rebuild.Statement (.EVEX_Vprold_xmm_k1z_xmmm128b32_imm8 p rm ib) := rfl

theorem Rebuild.EVEX_Vprold_ymm_k1z_ymmm256b32_imm8 (p : EvexPrefix) (rm : RMOperand) (ib : Byte) :
    Rebuild.Statement (.EVEX_Vprold_ymm_k1z_ymmm256b32_imm8 p rm ib) := rfl

theorem Rebuild.EVEX_Vprold_zmm_k1z_zmmm512b32_imm8 (p : EvexPrefix) (rm : RMOperand) (ib : Byte) :
    Rebuild.Statement (.EVEX_Vprold_zmm_k1z_zmmm512b32_imm8 p rm ib) := rfl

theorem Rebuild.EVEX_Vprolq_xmm_k1z_xmmm128b64_imm8 (p : EvexPrefix) (rm : RMOperand) (ib : Byte) :
    Rebuild.Statement (.EVEX_Vprolq_xmm_k1z_xmmm128b64_imm8 p rm ib) := rfl

theorem Rebuild.EVEX_Vprolq_ymm_k1z_ymmm256b64_imm8 (p : EvexPrefix) (rm : RMOperand) (ib : Byte) :
    Rebuild.Statement (.EVEX_Vprolq_ymm_k1z_ymmm256b64_imm8 p rm ib) := rfl

theorem Rebuild.EVEX_Vprolq_zmm_k1z_zmmm512b64_imm8 (p : EvexPrefix) (rm : RMOperand) (ib : Byte) :
    Rebuild.Statement (.EVEX_Vprolq_zmm_k1z_zmmm512b64_imm8 p rm ib) := rfl

theorem Rebuild.EVEX_Vpsrld_xmm_k1z_xmmm128b32_imm8 (p : EvexPrefix) (rm : RMOperand) (ib : Byte) :
    Rebuild.Statement (.EVEX_Vpsrld_xmm_k1z_xmmm128b32_imm8 p rm ib) := rfl

theorem Rebuild.EVEX_Vpsrld_ymm_k1z_ymmm256b32_imm8 (p : EvexPrefix) (rm : RMOperand) (ib : Byte) :
    Rebuild.Statement (.EVEX_Vpsrld_ymm_k1z_ymmm256b32_imm8 p rm ib) := rfl

theorem Rebuild.EVEX_Vpsrld_zmm_k1z_zmmm512b32_imm8 (p : EvexPrefix) (rm : RMOperand) (ib : Byte) :
    Rebuild.Statement (.EVEX_Vpsrld_zmm_k1z_zmmm512b32_imm8 p rm ib) := rfl

theorem Rebuild.EVEX_Vpsrad_xmm_k1z_xmmm128b32_imm8 (p : EvexPrefix) (rm : RMOperand) (ib : Byte) :
    Rebuild.Statement (.EVEX_Vpsrad_xmm_k1z_xmmm128b32_imm8 p rm ib) := rfl

theorem Rebuild.EVEX_Vpsrad_ymm_k1z_ymmm256b32_imm8 (p : EvexPrefix) (rm : RMOperand) (ib : Byte) :
    Rebuild.Statement (.EVEX_Vpsrad_ymm_k1z_ymmm256b32_imm8 p rm ib) := rfl

theorem Rebuild.EVEX_Vpsrad_zmm_k1z_zmmm512b32_imm8 (p : EvexPrefix) (rm : RMOperand) (ib : Byte) :
    Rebuild.Statement (.EVEX_Vpsrad_zmm_k1z_zmmm512b32_imm8 p rm ib) := rfl

theorem Rebuild.EVEX_Vpsraq_xmm_k1z_xmmm128b64_imm8 (p : EvexPrefix) (rm : RMOperand) (ib : Byte) :
    Rebuild.Statement (.EVEX_Vpsraq_xmm_k1z_xmmm128b64_imm8 p rm ib) := rfl

theorem Rebuild.EVEX_Vpsraq_ymm_k1z_ymmm256b64_imm8 (p : EvexPrefix) (rm : RMOperand) (ib : Byte) :
    Rebuild.Statement (.EVEX_Vpsraq_ymm_k1z_ymmm256b64_imm8 p rm ib) := rfl

theorem Rebuild.EVEX_Vpsraq_zmm_k1z_zmmm512b64_imm8 (p : EvexPrefix) (rm : RMOperand) (ib : Byte) :
    Rebuild.Statement (.EVEX_Vpsraq_zmm_k1z_zmmm512b64_imm8 p rm ib) := rfl

theorem Rebuild.EVEX_Vpslld_xmm_k1z_xmmm128b32_imm8 (p : EvexPrefix) (rm : RMOperand) (ib : Byte) :
    Rebuild.Statement (.EVEX_Vpslld_xmm_k1z_xmmm128b32_imm8 p rm ib) := rfl

theorem Rebuild.EVEX_Vpslld_ymm_k1z_ymmm256b32_imm8 (p : EvexPrefix) (rm : RMOperand) (ib : Byte) :
    Rebuild.Statement (.EVEX_Vpslld_ymm_k1z_ymmm256b32_imm8 p rm ib) := rfl

theorem Rebuild.EVEX_Vpslld_zmm_k1z_zmmm512b32_imm8 (p : EvexPrefix) (rm : RMOperand) (ib : Byte) :
    Rebuild.Statement (.EVEX_Vpslld_zmm_k1z_zmmm512b32_imm8 p rm ib) := rfl

theorem Rebuild.EVEX_Vpsrlq_xmm_k1z_xmmm128b64_imm8 (p : EvexPrefix) (rm : RMOperand) (ib : Byte) :
    Rebuild.Statement (.EVEX_Vpsrlq_xmm_k1z_xmmm128b64_imm8 p rm ib) := rfl

theorem Rebuild.EVEX_Vpsrlq_ymm_k1z_ymmm256b64_imm8 (p : EvexPrefix) (rm : RMOperand) (ib : Byte) :
    Rebuild.Statement (.EVEX_Vpsrlq_ymm_k1z_ymmm256b64_imm8 p rm ib) := rfl

theorem Rebuild.EVEX_Vpsrlq_zmm_k1z_zmmm512b64_imm8 (p : EvexPrefix) (rm : RMOperand) (ib : Byte) :
    Rebuild.Statement (.EVEX_Vpsrlq_zmm_k1z_zmmm512b64_imm8 p rm ib) := rfl

theorem Rebuild.EVEX_Vpsrldq_xmm_xmmm128_imm8 (p : EvexPrefix) (rm : RMOperand) (ib : Byte) :
    Rebuild.Statement (.EVEX_Vpsrldq_xmm_xmmm128_imm8 p rm ib) := rfl

theorem Rebuild.EVEX_Vpsrldq_ymm_ymmm256_imm8 (p : EvexPrefix) (rm : RMOperand) (ib : Byte) :
    Rebuild.Statement (.EVEX_Vpsrldq_ymm_ymmm256_imm8 p rm ib) := rfl

theorem Rebuild.EVEX_Vpsrldq_zmm_zmmm512_imm8 (p : EvexPrefix) (rm : RMOperand) (ib : Byte) :
    Rebuild.Statement (.EVEX_Vpsrldq_zmm_zmmm512_imm8 p rm ib) := rfl

theorem Rebuild.EVEX_Vpsllq_xmm_k1z_xmmm128b64_imm8 (p : EvexPrefix) (rm : RMOperand) (ib : Byte) :
    Rebuild.Statement (.EVEX_Vpsllq_xmm_k1z_xmmm128b64_imm8 p rm ib) := rfl

theorem Rebuild.EVEX_Vpsllq_ymm_k1z_ymmm256b64_imm8 (p : EvexPrefix) (rm : RMOperand) (ib : Byte) :
    Rebuild.Statement (.EVEX_Vpsllq_ymm_k1z_ymmm256b64_imm8 p rm ib) := rfl

theorem Rebuild.EVEX_Vpsllq_zmm_k1z_zmmm512b64_imm8 (p : EvexPrefix) (rm : RMOperand) (ib : Byte) :
    Rebuild.Statement (.EVEX_Vpsllq_zmm_k1z_zmmm512b64_imm8 p rm ib) := rfl

theorem Rebuild.EVEX_Vpslldq_xmm_xmmm128_imm8 (p : EvexPrefix) (rm : RMOperand) (ib : Byte) :
    Rebuild.Statement (.EVEX_Vpslldq_xmm_xmmm128_imm8 p rm ib) := rfl

theorem Rebuild.EVEX_Vpslldq_ymm_ymmm256_imm8 (p : EvexPrefix) (rm : RMOperand) (ib : Byte) :
    Rebuild.Statement (.EVEX_Vpslldq_ymm_ymmm256_imm8 p rm ib) := rfl

theorem Rebuild.EVEX_Vpslldq_zmm_zmmm512_imm8 (p : EvexPrefix) (rm : RMOperand) (ib : Byte) :
    Rebuild.Statement (.EVEX_Vpslldq_zmm_zmmm512_imm8 p rm ib) := rfl

theorem Rebuild.EVEX_Vpcmpeqb_kr_k1_xmm_xmmm128 (p : EvexPrefix) (reg : BitVec 3) (rm : RMOperand) :
    Rebuild.Statement (.EVEX_Vpcmpeqb_kr_k1_xmm_xmmm128 p reg rm) := rfl

theorem Rebuild.EVEX_Vpcmpeqb_kr_k1_ymm_ymmm256 (p : EvexPrefix) (reg : BitVec 3) (rm : RMOperand) :
    Rebuild.Statement (.EVEX_Vpcmpeqb_kr_k1_ymm_ymmm256 p reg rm) := rfl

theorem Rebuild.EVEX_Vpcmpeqb_kr_k1_zmm_zmmm512 (p : EvexPrefix) (reg : BitVec 3) (rm : RMOperand) :
    Rebuild.Statement (.EVEX_Vpcmpeqb_kr_k1_zmm_zmmm512 p reg rm) := rfl

theorem Rebuild.EVEX_Vpcmpeqw_kr_k1_xmm_xmmm128 (p : EvexPrefix) (reg : BitVec 3) (rm : RMOperand) :
    Rebuild.Statement (.EVEX_Vpcmpeqw_kr_k1_xmm_xmmm128 p reg rm) := rfl

theorem Rebuild.EVEX_Vpcmpeqw_kr_k1_ymm_ymmm256 (p : EvexPrefix) (reg : BitVec 3) (rm : RMOperand) :
    Rebuild.Statement (.EVEX_Vpcmpeqw_kr_k1_ymm_ymmm256 p reg rm) := rfl

theorem Rebuild.EVEX_Vpcmpeqw_kr_k1_zmm_zmmm512 (p : EvexPrefix) (reg : BitVec 3) (rm : RMOperand) :
    Rebuild.Statement (.EVEX_Vpcmpeqw_kr_k1_zmm_zmmm512 p reg rm) := rfl

theorem Rebuild.EVEX_Vpcmpeqd_kr_k1_xmm_xmmm128b32 (p : EvexPrefix) (reg : BitVec 3) (rm : RMOperand) :
    Rebuild.Statement (.EVEX_Vpcmpeqd_kr_k1_xmm_xmmm128b32 p reg rm) := rfl

theorem Rebuild.EVEX_Vpcmpeqd_kr_k1_ymm_ymmm256b32 (p : EvexPrefix) (reg : BitVec 3) (rm : RMOperand) :
    Rebuild.Statement (.EVEX_Vpcmpeqd_kr_k1_ymm_ymmm256b32 p reg rm) := rfl

theorem Rebuild.EVEX_Vpcmpeqd_kr_k1_zmm_zmmm512b32 (p : EvexPrefix) (reg : BitVec 3) (rm : RMOperand) :
    Rebuild.Statement (.EVEX_Vpcmpeqd_kr_k1_zmm_zmmm512b32 p reg rm) := rfl

theorem Rebuild.EVEX_Vpshldw_xmm_k1z_xmm_xmmm128_imm8 (p : EvexPrefix) (reg : BitVec 3) (rm : RMOperand) (ib : Byte) :
    Rebuild.Statement (.EVEX_Vpshldw_xmm_k1z_xmm_xmmm128_imm8 p reg rm ib) := rfl

theorem Rebuild.EVEX_Vpshldw_ymm_k1z_ymm_ymmm256_imm8 (p : EvexPrefix) (reg : BitVec 3) (rm : RMOperand) (ib : Byte) :
    Rebuild.Statement (.EVEX_Vpshldw_ymm_k1z_ymm_ymmm256_imm8 p reg rm ib) := rfl

theorem Rebuild.EVEX_Vpshldw_zmm_k1z_zmm_zmmm512_imm8 (p : EvexPrefix) (reg : BitVec 3) (rm : RMOperand) (ib : Byte) :
    Rebuild.Statement (.EVEX_Vpshldw_zmm_k1z_zmm_zmmm512_imm8 p reg rm ib) := rfl

theorem Rebuild.EVEX_Vpshldd_xmm_k1z_xmm_xmmm128b32_imm8 (p : EvexPrefix) (reg : BitVec 3) (rm : RMOperand) (ib : Byte) :
    Rebuild.Statement (.EVEX_Vpshldd_xmm_k1z_xmm_xmmm128b32_imm8 p reg rm ib) := rfl

theorem Rebuild.EVEX_Vpshldd_ymm_k1z_ymm_ymmm256b32_imm8 (p : EvexPrefix) (reg : BitVec 3) (rm : RMOperand) (ib : Byte) :
    Rebuild.Statement (.EVEX_Vpshldd_ymm_k1z_ymm_ymmm256b32_imm8 p reg rm ib) := rfl

theorem Rebuild.EVEX_Vpshldd_zmm_k1z_zmm_zmmm512b32_imm8 (p : EvexPrefix) (reg : BitVec 3) (rm : RMOperand) (ib : Byte) :
    Rebuild.Statement (.EVEX_Vpshldd_zmm_k1z_zmm_zmmm512b32_imm8 p reg rm ib) := rfl

theorem Rebuild.EVEX_Vpshldq_xmm_k1z_xmm_xmmm128b64_imm8 (p : EvexPrefix) (reg : BitVec 3) (rm : RMOperand) (ib : Byte) :
    Rebuild.Statement (.EVEX_Vpshldq_xmm_k1z_xmm_xmmm128b64_imm8 p reg rm ib) := rfl

theorem Rebuild.EVEX_Vpshldq_ymm_k1z_ymm_ymmm256b64_imm8 (p : EvexPrefix) (reg : BitVec 3) (rm : RMOperand) (ib : Byte) :
    Rebuild.Statement (.EVEX_Vpshldq_ymm_k1z_ymm_ymmm256b64_imm8 p reg rm ib) := rfl

theorem Rebuild.EVEX_Vpshldq_zmm_k1z_zmm_zmmm512b64_imm8 (p : EvexPrefix) (reg : BitVec 3) (rm : RMOperand) (ib : Byte) :
    Rebuild.Statement (.EVEX_Vpshldq_zmm_k1z_zmm_zmmm512b64_imm8 p reg rm ib) := rfl

theorem Rebuild.EVEX_Vpshrdw_xmm_k1z_xmm_xmmm128_imm8 (p : EvexPrefix) (reg : BitVec 3) (rm : RMOperand) (ib : Byte) :
    Rebuild.Statement (.EVEX_Vpshrdw_xmm_k1z_xmm_xmmm128_imm8 p reg rm ib) := rfl

theorem Rebuild.EVEX_Vpshrdw_ymm_k1z_ymm_ymmm256_imm8 (p : EvexPrefix) (reg : BitVec 3) (rm : RMOperand) (ib : Byte) :
    Rebuild.Statement (.EVEX_Vpshrdw_ymm_k1z_ymm_ymmm256_imm8 p reg rm ib) := rfl

theorem Rebuild.EVEX_Vpshrdw_zmm_k1z_zmm_zmmm512_imm8 (p : EvexPrefix) (reg : BitVec 3) (rm : RMOperand) (ib : Byte) :
    Rebuild.Statement (.EVEX_Vpshrdw_zmm_k1z_zmm_zmmm512_imm8 p reg rm ib) := rfl

theorem Rebuild.EVEX_Vpshrdd_xmm_k1z_xmm_xmmm128b32_imm8 (p : EvexPrefix) (reg : BitVec 3) (rm : RMOperand) (ib : Byte) :
    Rebuild.Statement (.EVEX_Vpshrdd_xmm_k1z_xmm_xmmm128b32_imm8 p reg rm ib) := rfl

theorem Rebuild.EVEX_Vpshrdd_ymm_k1z_ymm_ymmm256b32_imm8 (p : EvexPrefix) (reg : BitVec 3) (rm : RMOperand) (ib : Byte) :
    Rebuild.Statement (.EVEX_Vpshrdd_ymm_k1z_ymm_ymmm256b32_imm8 p reg rm ib) := rfl

theorem Rebuild.EVEX_Vpshrdd_zmm_k1z_zmm_zmmm512b32_imm8 (p : EvexPrefix) (reg : BitVec 3) (rm : RMOperand) (ib : Byte) :
    Rebuild.Statement (.EVEX_Vpshrdd_zmm_k1z_zmm_zmmm512b32_imm8 p reg rm ib) := rfl

theorem Rebuild.EVEX_Vpshrdq_xmm_k1z_xmm_xmmm128b64_imm8 (p : EvexPrefix) (reg : BitVec 3) (rm : RMOperand) (ib : Byte) :
    Rebuild.Statement (.EVEX_Vpshrdq_xmm_k1z_xmm_xmmm128b64_imm8 p reg rm ib) := rfl

theorem Rebuild.EVEX_Vpshrdq_ymm_k1z_ymm_ymmm256b64_imm8 (p : EvexPrefix) (reg : BitVec 3) (rm : RMOperand) (ib : Byte) :
    Rebuild.Statement (.EVEX_Vpshrdq_ymm_k1z_ymm_ymmm256b64_imm8 p reg rm ib) := rfl

theorem Rebuild.EVEX_Vpshrdq_zmm_k1z_zmm_zmmm512b64_imm8 (p : EvexPrefix) (reg : BitVec 3) (rm : RMOperand) (ib : Byte) :
    Rebuild.Statement (.EVEX_Vpshrdq_zmm_k1z_zmm_zmmm512b64_imm8 p reg rm ib) := rfl

end Sys2Proof.Laws
end

