-- ==== Sys2Proof/Laws/State.lean ====
section
/-! SUPPORT. What every named update of the state leaves in every field, one lemma per field per update, each true by
definition. -/

namespace Sys2Proof.Machine

open Sys2Proof

/-! ### `begin` -/

@[simp] theorem State.begin_buffer (s : State) : (s.begin).buffer = s.buffer := rfl
@[simp] theorem State.begin_startOffset (s : State) : (s.begin).startOffset = s.startOffset := rfl
@[simp] theorem State.begin_bitness (s : State) : (s.begin).bitness = s.bitness := rfl
@[simp] theorem State.begin_rexOrder (s : State) : (s.begin).rexOrder = s.rexOrder := rfl
@[simp] theorem State.begin_fsm (s : State) : (s.begin).fsm = .PrefixScan := rfl
@[simp] theorem State.begin_avail (s : State) : (s.begin).avail = s.window.length := rfl
@[simp] theorem State.begin_regs (s : State) : (s.begin).regs = Regs.initial := rfl
@[simp] theorem State.begin_vf (s : State) : (s.begin).vf = VectorFields.initial := rfl
@[simp] theorem State.begin_result (s : State) : (s.begin).result = s.result := rfl

/-! ### `raise` -/

@[simp] theorem State.raise_buffer (e : DecodeError) (s : State) : (s.raise e).buffer = s.buffer := rfl
@[simp] theorem State.raise_startOffset (e : DecodeError) (s : State) : (s.raise e).startOffset = s.startOffset := rfl
@[simp] theorem State.raise_bitness (e : DecodeError) (s : State) : (s.raise e).bitness = s.bitness := rfl
@[simp] theorem State.raise_rexOrder (e : DecodeError) (s : State) : (s.raise e).rexOrder = s.rexOrder := rfl
@[simp] theorem State.raise_fsm (e : DecodeError) (s : State) : (s.raise e).fsm = .Error e := rfl
@[simp] theorem State.raise_avail (e : DecodeError) (s : State) : (s.raise e).avail = s.avail := rfl
@[simp] theorem State.raise_regs (e : DecodeError) (s : State) : (s.raise e).regs = s.regs := rfl
@[simp] theorem State.raise_vf (e : DecodeError) (s : State) : (s.raise e).vf = s.vf := rfl
@[simp] theorem State.raise_result (e : DecodeError) (s : State) : (s.raise e).result = .Err e := rfl

/-! ### `done` -/

@[simp] theorem State.done_buffer (insn : Instruction) (s : State) : (s.done insn).buffer = s.buffer := rfl
@[simp] theorem State.done_startOffset (insn : Instruction) (s : State) : (s.done insn).startOffset = s.startOffset := rfl
@[simp] theorem State.done_bitness (insn : Instruction) (s : State) : (s.done insn).bitness = s.bitness := rfl
@[simp] theorem State.done_rexOrder (insn : Instruction) (s : State) : (s.done insn).rexOrder = s.rexOrder := rfl
@[simp] theorem State.done_fsm (insn : Instruction) (s : State) : (s.done insn).fsm = .Done := rfl
@[simp] theorem State.done_avail (insn : Instruction) (s : State) : (s.done insn).avail = s.avail := rfl
@[simp] theorem State.done_regs (insn : Instruction) (s : State) : (s.done insn).regs = s.regs := rfl
@[simp] theorem State.done_vf (insn : Instruction) (s : State) : (s.done insn).vf = s.vf := rfl
@[simp] theorem State.done_result (insn : Instruction) (s : State) : (s.done insn).result = .Ok insn := rfl

/-! ### `decoded` -/

@[simp] theorem State.decoded_buffer (r : Regs) (s : State) : (s.decoded r).buffer = s.buffer := rfl
@[simp] theorem State.decoded_startOffset (r : Regs) (s : State) : (s.decoded r).startOffset = s.startOffset := rfl
@[simp] theorem State.decoded_bitness (r : Regs) (s : State) : (s.decoded r).bitness = s.bitness := rfl
@[simp] theorem State.decoded_rexOrder (r : Regs) (s : State) : (s.decoded r).rexOrder = s.rexOrder := rfl
@[simp] theorem State.decoded_fsm (r : Regs) (s : State) : (s.decoded r).fsm = if r.ps.space = .Legacy then .Assemble else .VectorFieldDecode := rfl
@[simp] theorem State.decoded_avail (r : Regs) (s : State) : (s.decoded r).avail = s.window.length := rfl
@[simp] theorem State.decoded_regs (r : Regs) (s : State) : (s.decoded r).regs = r := rfl
@[simp] theorem State.decoded_vf (r : Regs) (s : State) : (s.decoded r).vf = VectorFields.initial := rfl
@[simp] theorem State.decoded_result (r : Regs) (s : State) : (s.decoded r).result = s.result := rfl

/-! ### `stopped` -/

@[simp] theorem State.stopped_buffer (st : Stop) (s : State) : (s.stopped st).buffer = s.buffer := rfl
@[simp] theorem State.stopped_startOffset (st : Stop) (s : State) : (s.stopped st).startOffset = s.startOffset := rfl
@[simp] theorem State.stopped_bitness (st : Stop) (s : State) : (s.stopped st).bitness = s.bitness := rfl
@[simp] theorem State.stopped_rexOrder (st : Stop) (s : State) : (s.stopped st).rexOrder = s.rexOrder := rfl
@[simp] theorem State.stopped_fsm (st : Stop) (s : State) : (s.stopped st).fsm = .Error st.err := rfl
@[simp] theorem State.stopped_avail (st : Stop) (s : State) : (s.stopped st).avail = s.window.length := rfl
@[simp] theorem State.stopped_regs (st : Stop) (s : State) : (s.stopped st).regs = st.regs := rfl
@[simp] theorem State.stopped_vf (st : Stop) (s : State) : (s.stopped st).vf = VectorFields.initial := rfl
@[simp] theorem State.stopped_result (st : Stop) (s : State) : (s.stopped st).result = .Err st.err := rfl

/-! ### `supply` -/

@[simp] theorem State.supply_buffer (bs : List Byte) (a : Nat) (bt : Bitness) (s : State) : (s.supply bs a bt).buffer = Memory.ofBytes bs := rfl
@[simp] theorem State.supply_startOffset (bs : List Byte) (a : Nat) (bt : Bitness) (s : State) : (s.supply bs a bt).startOffset = a := rfl
@[simp] theorem State.supply_bitness (bs : List Byte) (a : Nat) (bt : Bitness) (s : State) : (s.supply bs a bt).bitness = bt := rfl
@[simp] theorem State.supply_rexOrder (bs : List Byte) (a : Nat) (bt : Bitness) (s : State) : (s.supply bs a bt).rexOrder = s.rexOrder := rfl
@[simp] theorem State.supply_fsm (bs : List Byte) (a : Nat) (bt : Bitness) (s : State) : (s.supply bs a bt).fsm = s.fsm := rfl
@[simp] theorem State.supply_avail (bs : List Byte) (a : Nat) (bt : Bitness) (s : State) : (s.supply bs a bt).avail = s.avail := rfl
@[simp] theorem State.supply_regs (bs : List Byte) (a : Nat) (bt : Bitness) (s : State) : (s.supply bs a bt).regs = s.regs := rfl
@[simp] theorem State.supply_vf (bs : List Byte) (a : Nat) (bt : Bitness) (s : State) : (s.supply bs a bt).vf = s.vf := rfl
@[simp] theorem State.supply_result (bs : List Byte) (a : Nat) (bt : Bitness) (s : State) : (s.supply bs a bt).result = s.result := rfl

/-! ### `advance` -/

@[simp] theorem State.advance_buffer (skip : Nat) (s : State) : (s.advance skip).buffer = s.buffer := by
  unfold State.advance; split <;> rfl
@[simp] theorem State.advance_bitness (skip : Nat) (s : State) : (s.advance skip).bitness = s.bitness := by
  unfold State.advance; split <;> rfl
@[simp] theorem State.advance_rexOrder (skip : Nat) (s : State) : (s.advance skip).rexOrder = s.rexOrder := by
  unfold State.advance; split <;> rfl
@[simp] theorem State.advance_fsm (skip : Nat) (s : State) : (s.advance skip).fsm = s.fsm := by
  unfold State.advance; split <;> rfl
@[simp] theorem State.advance_avail (skip : Nat) (s : State) : (s.advance skip).avail = s.avail := by
  unfold State.advance; split <;> rfl
@[simp] theorem State.advance_regs (skip : Nat) (s : State) : (s.advance skip).regs = s.regs := by
  unfold State.advance; split <;> rfl
@[simp] theorem State.advance_vf (skip : Nat) (s : State) : (s.advance skip).vf = s.vf := by
  unfold State.advance; split <;> rfl
@[simp] theorem State.advance_result (skip : Nat) (s : State) : (s.advance skip).result = s.result := by
  unfold State.advance; split <;> rfl

/-- R212: after `Ok`, the caller's offset is past the instruction. -/
theorem State.advance_ok (skip : Nat) (s : State) (insn : Instruction) (h : s.result = .Ok insn) :
    (s.advance skip).startOffset = s.startOffset + insn.byteLength.val := by
  unfold State.advance; rw [h]

/-- R526: after `Err`, the caller's offset moves by its own choice. -/
theorem State.advance_err (skip : Nat) (s : State) (e : DecodeError) (h : s.result = .Err e) :
    (s.advance skip).startOffset = s.startOffset + skip := by
  unfold State.advance; rw [h]

/-! ### The window -/

/-- The window depends on the buffer and the offset alone. -/
theorem State.window_congr (s t : State) (hb : s.buffer = t.buffer) (ho : s.startOffset = t.startOffset) :
    s.window = t.window := by
  unfold State.window; rw [hb, ho]

/-! ### Reset -/

@[simp] theorem State.resetOf_buffer (o : RexOrder) : (State.resetOf o).buffer = [] := rfl
@[simp] theorem State.resetOf_startOffset (o : RexOrder) : (State.resetOf o).startOffset = 0 := rfl
@[simp] theorem State.resetOf_bitness (o : RexOrder) : (State.resetOf o).bitness = .b64 := rfl
@[simp] theorem State.resetOf_rexOrder (o : RexOrder) : (State.resetOf o).rexOrder = o := rfl
@[simp] theorem State.resetOf_fsm (o : RexOrder) : (State.resetOf o).fsm = .Start := rfl
@[simp] theorem State.resetOf_avail (o : RexOrder) : (State.resetOf o).avail = 0 := rfl
@[simp] theorem State.resetOf_regs (o : RexOrder) : (State.resetOf o).regs = Regs.initial := rfl
@[simp] theorem State.resetOf_vf (o : RexOrder) : (State.resetOf o).vf = VectorFields.initial := rfl
@[simp] theorem State.resetOf_result (o : RexOrder) : (State.resetOf o).result = .Err .UnexpectedEof := rfl

@[simp] theorem State.reset_buffer : State.reset.buffer = [] := rfl
@[simp] theorem State.reset_startOffset : State.reset.startOffset = 0 := rfl
@[simp] theorem State.reset_bitness : State.reset.bitness = .b64 := rfl
@[simp] theorem State.reset_rexOrder : State.reset.rexOrder = .Architectural := rfl
@[simp] theorem State.reset_fsm : State.reset.fsm = .Start := rfl
@[simp] theorem State.reset_avail : State.reset.avail = 0 := rfl
@[simp] theorem State.reset_regs : State.reset.regs = Regs.initial := rfl
@[simp] theorem State.reset_vf : State.reset.vf = VectorFields.initial := rfl
@[simp] theorem State.reset_result : State.reset.result = .Err .UnexpectedEof := rfl

@[simp] theorem State.assertReset_buffer (s : State) : s.assertReset.buffer = s.buffer := rfl
@[simp] theorem State.assertReset_startOffset (s : State) : s.assertReset.startOffset = s.startOffset := rfl
@[simp] theorem State.assertReset_bitness (s : State) : s.assertReset.bitness = s.bitness := rfl
@[simp] theorem State.assertReset_rexOrder (s : State) : s.assertReset.rexOrder = s.rexOrder := rfl
@[simp] theorem State.assertReset_fsm (s : State) : s.assertReset.fsm = .Start := rfl
@[simp] theorem State.assertReset_avail (s : State) : s.assertReset.avail = s.window.length := rfl
@[simp] theorem State.assertReset_regs (s : State) : s.assertReset.regs = Regs.initial := rfl
@[simp] theorem State.assertReset_vf (s : State) : s.assertReset.vf = VectorFields.initial := rfl
@[simp] theorem State.assertReset_result (s : State) : s.assertReset.result = .Err .UnexpectedEof := rfl

end Sys2Proof.Machine
end

