-- ==== Sys2Proof/Tests/Slice0.lean ====
section
/-! SUPPORT. The model's own tests: `wf` and `legal` refuse an ill-formed term of each kind; the table against
opcode_table.json; the worked example of every instruction rule, bytes and record as spec/45 to spec/49 give them; the
error tables of spec/60_exceptions.md; the encoder against words of the spec; and, for every statement with hypotheses,
states and operands that meet them (`witness_<statement>`). -/

namespace Sys2Proof.Tests

open Sys2Proof Sys2Proof.Machine Sys2Proof.Spec

/-! ### Helpers -/

/-- The state after reset, given the bytes `bs` to decode in bitness `bt`. -/
def st (bt : Bitness) (bs : List Byte) : State := { State.reset with buffer := Memory.ofBytes bs, bitness := bt }

/-- The state that an outcome goes on in; `s` where it does not. -/
def goesTo (s : State) (o : Host.Outcome State Fault Refusal) : State :=
  match o with
  | .next t => t
  | .fault _ => s
  | .refused _ => s

/-- Whether an outcome goes on. -/
def goes (o : Host.Outcome State Fault Refusal) : Bool :=
  match o with
  | .next _ => true
  | .fault _ => false
  | .refused _ => false

theorem eq_next_goesTo (s : State) (o : Host.Outcome State Fault Refusal) (h : goes o = true) : o = .next (goesTo s o) := by
  cases o with
  | next t => rfl
  | fault e => cases h
  | refused e => cases h

/-- The state after one step. -/
def after (s : State) : State := goesTo s (step s)

theorem step_eq (s : State) (h : goes (step s) = true) : step s = .next (after s) := eq_next_goesTo s (step s) h

/-- What a transaction on the bytes `bs` ends with. -/
def run (bt : Bitness) (bs : List Byte) : DecodeResult := (after (st bt bs)).result

/-- A record with a memory operand: segment, base, index, scale, displacement, its size, memory size. -/
def mem (seg : SegReg) (base index : Option Register) (scale : Nat) (d : BitVec 32) (size : Nat) (ms : MemorySize)
    (r : Instruction) : Instruction :=
  { r with memorySegment := some seg, memoryBase := base, memoryIndex := index, memoryIndexScale := scale,
           memoryDisplacement := d, memoryDisplSize := size, memorySize := ms }

/-- A record with an opmask. -/
def masked (k : Option Register) (z : Bool) (r : Instruction) : Instruction := { r with opMask := k, zeroingMasking := z }

/-- Bitness, bytes, and the record they decode to. -/
abbrev Example := Bitness × List Byte × Instruction

/-- A transaction on the bytes ends with the record, and the machine of one step per FSM state agrees. -/
def Example.holds (e : Example) : Bool :=
  decide (run e.1 e.2.1 = .Ok e.2.2) &&
    decide (goesTo State.reset (fsmRun 6 (st e.1 e.2.1)) = after (st e.1 e.2.1))

/-! ### `wf` and `legal` refuse -/

/-- A VEX row, with its prefix. -/
def vshuf (p : VexPrefix) : Instr := .VEX_Vpshufd_xmm_xmmm128_imm8 p 1 (.reg 2) 0

/-- An EVEX row that needs W = 0 and has a broadcast form, with its prefix and rm operand. -/
def eshuf (p : EvexPrefix) (rm : RMOperand) : Instr := .EVEX_Vpshufd_xmm_k1z_xmmm128b32_imm8 p 1 rm 0

/-- A legacy row of mandatory prefix NP, with its prefixes and rm operand. -/
def lshuf (p : LegacyPrefix) (rm : RMOperand) : Instr := .Pshufw_mm_mmm64_imm8 p 1 rm 0

theorem test_wf_accepts :
    (lshuf LegacyPrefix.none (.mem 1 4 (some 0x24) (.d8 8))).wf .b32 = true ∧ (vshuf VexPrefix.none).wf .b64 = true ∧
    (eshuf EvexPrefix.none (.reg 2)).wf .b64 = true ∧
    (eshuf { EvexPrefix.none with b := true } (.mem 1 0 none (.d8 1))).wf .b64 = true := by decide +kernel

/-- R77: mod = 11 in a memory operand; R157: a SIB byte missing, and one too many; R155, R161: a displacement of another
size than mod, rm and the address size call for. -/
theorem test_wf_refuses_rm :
    (lshuf LegacyPrefix.none (.mem 3 0 none .none)).wf .b64 = false ∧
    (lshuf LegacyPrefix.none (.mem 0 4 none .none)).wf .b64 = false ∧
    (lshuf LegacyPrefix.none (.mem 0 0 (some 0x24) .none)).wf .b64 = false ∧
    (lshuf LegacyPrefix.none (.mem 0 4 (some 0x24) .none)).wf .b16 = false ∧
    (lshuf LegacyPrefix.none (.mem 1 0 none .none)).wf .b64 = false ∧
    (lshuf LegacyPrefix.none (.mem 2 0 none (.d16 0))).wf .b64 = false ∧
    (lshuf LegacyPrefix.none (.mem 2 0 none (.d32 0))).wf .b16 = false := by decide +kernel

/-- R118: a mandatory prefix of another row; R105: REX outside 64-bit bitness; R133: LOCK. -/
theorem test_wf_refuses_legacy_prefixes :
    (lshuf { LegacyPrefix.none with opsize := true } (.reg 2)).wf .b64 = false ∧
    (lshuf { LegacyPrefix.none with rep := some .F3 } (.reg 2)).wf .b64 = false ∧
    (lshuf { LegacyPrefix.none with rex := some 0 } (.reg 2)).wf .b32 = false ∧
    (lshuf { LegacyPrefix.none with lock := true } (.reg 2)).wf .b64 = false := by decide +kernel

/-- R73: X, B or W in the two-byte form; R107, R117: R, X, B, or vvvv bit 3 in the two-byte form, outside 64-bit bitness. -/
theorem test_wf_refuses_vex_fields :
    (vshuf { VexPrefix.none with X := true }).wf .b64 = false ∧ (vshuf { VexPrefix.none with B := true }).wf .b64 = false ∧
    (vshuf { VexPrefix.none with W := true }).wf .b64 = false ∧ (vshuf { VexPrefix.none with R := true }).wf .b32 = false ∧
    (vshuf { VexPrefix.none with three := true, X := true }).wf .b16 = false ∧
    (vshuf { VexPrefix.none with three := true, B := true }).wf .b16 = false ∧
    (vshuf { VexPrefix.none with vvvv := 8 }).wf .b32 = false := by decide +kernel

/-- R136: another W than the row's; R107, R117: R, X, B or R' outside 64-bit bitness; R184: b = 1 with a register. No term
reaches the length check: without LOCK the normalised prefixes are at most five (assumption 9), and five with the longest
operands make 14 bytes. -/
theorem test_wf_refuses_evex_fields :
    (eshuf { EvexPrefix.none with W := true } (.reg 2)).wf .b64 = false ∧
    (eshuf { EvexPrefix.none with R := true } (.reg 2)).wf .b32 = false ∧
    (eshuf { EvexPrefix.none with X := true } (.reg 2)).wf .b32 = false ∧
    (eshuf { EvexPrefix.none with B := true } (.reg 2)).wf .b32 = false ∧
    (eshuf { EvexPrefix.none with Rp := true } (.reg 2)).wf .b32 = false ∧
    (eshuf { EvexPrefix.none with b := true } (.reg 2)).wf .b64 = false := by decide +kernel

/-- R189: a used unused vvvv; R192, R193, R191: masking the row does not allow; R184, R187: b = 1 where no broadcast
stands; R193: R or R' with a K destination; R133: LOCK. -/
theorem test_legal_refuses :
    (vshuf { VexPrefix.none with vvvv := 1 }).legal .b64 = false ∧
    (eshuf { EvexPrefix.none with vvvv := 8 } (.reg 2)).legal .b16 = false ∧
    (eshuf { EvexPrefix.none with Vp := true } (.reg 2)).legal .b64 = false ∧
    (Instr.EVEX_Vpsrldq_xmm_xmmm128_imm8 { EvexPrefix.none with aaa := 1 } (.reg 2) 0).legal .b64 = false ∧
    (Instr.EVEX_Vpcmpeqb_kr_k1_xmm_xmmm128 { EvexPrefix.none with aaa := 1, z := true } 1 (.reg 2)).legal .b64 = false ∧
    (eshuf { EvexPrefix.none with z := true } (.reg 2)).legal .b64 = false ∧
    (eshuf { EvexPrefix.none with b := true } (.reg 2)).legal .b64 = false ∧
    (Instr.EVEX_Vpsrlw_xmm_k1z_xmmm128_imm8 { EvexPrefix.none with b := true } (.mem 0 0 none .none) 0).legal .b64
      = false ∧
    (Instr.EVEX_Vpcmpeqb_kr_k1_xmm_xmmm128 { EvexPrefix.none with R := true } 1 (.reg 2)).legal .b64 = false ∧
    (Instr.EVEX_Vpcmpeqb_kr_k1_xmm_xmmm128 { EvexPrefix.none with Rp := true } 1 (.reg 2)).legal .b64 = false ∧
    (lshuf { LegacyPrefix.none with lock := true } (.reg 2)).legal .b64 = false := by decide +kernel

/-! ### The opcode table -/

/-- R5, R141: 144 rows, no Code twice. -/
theorem test_table_size : allCodes.length = 144 ∧ allCodes.Nodup := by decide +kernel

/-- The `match` and `mask` of rows 1 to 48 of opcode_table.json. -/
theorem test_table_keys_first :
  ((allCodes.drop 0).take 48).map (fun c => ((row c).keyMatch.toNat, (row c).keyMask.toNat)) =
    [(0x11C00, 0xFFFC0), (0x15C00, 0xFFFC0), (0x19C00, 0xFFFC0), (0x1DC00, 0xFFFC0), (0x11C50, 0xFFFF8), (0x15C50, 0xFFFF8),
     (0x11C60, 0xFFFF8), (0x15C60, 0xFFFF8), (0x11C70, 0xFFFF8), (0x15C70, 0xFFFF8), (0x11C90, 0xFFFF8), (0x15C90, 0xFFFF8),
     (0x11CA0, 0xFFFF8), (0x15CA0, 0xFFFF8), (0x11CB0, 0xFFFF8), (0x15CB0, 0xFFFF8), (0x11CD0, 0xFFFF8), (0x15CD0, 0xFFFF8),
     (0x15CD8, 0xFFFF8), (0x11CF0, 0xFFFF8), (0x15CF0, 0xFFFF8), (0x15CF8, 0xFFFF8), (0x11D00, 0xFFFC0), (0x15D00, 0xFFFC0)] ++
    [(0x11D40, 0xFFFC0), (0x15D40, 0xFFFC0), (0x11D80, 0xFFFC0), (0x15D80, 0xFFFC0), (0x11DC0, 0xFFFC0), (0x55C00, 0xFFFC3),
     (0x55C01, 0xFFFC3), (0x59C00, 0xFFFC3), (0x59C01, 0xFFFC3), (0x5DC00, 0xFFFC3), (0x5DC01, 0xFFFC3), (0x55C50, 0xFFFFB),
     (0x55C51, 0xFFFFB), (0x55C60, 0xFFFFB), (0x55C61, 0xFFFFB), (0x55C70, 0xFFFFB), (0x55C71, 0xFFFFB), (0x55C90, 0xFFFFB),
     (0x55C91, 0xFFFFB), (0x55CA0, 0xFFFFB), (0x55CA1, 0xFFFFB), (0x55CB0, 0xFFFFB), (0x55CB1, 0xFFFFB), (0x55CD0, 0xFFFFB)] := by
  decide +kernel

/-- The `match` and `mask` of rows 49 to 96 of opcode_table.json. -/
theorem test_table_keys_second :
  ((allCodes.drop 48).take 48).map (fun c => ((row c).keyMatch.toNat, (row c).keyMask.toNat)) =
    [(0x55CD1, 0xFFFFB), (0x55CD8, 0xFFFFB), (0x55CD9, 0xFFFFB), (0x55CF0, 0xFFFFB), (0x55CF1, 0xFFFFB), (0x55CF8, 0xFFFFB),
     (0x55CF9, 0xFFFFB), (0x55D00, 0xFFFC3), (0x55D01, 0xFFFC3), (0x55D40, 0xFFFC3), (0x55D41, 0xFFFC3), (0x55D80, 0xFFFC3),
     (0x55D81, 0xFFFC3), (0x51DC0, 0xFFFC3), (0x51DC1, 0xFFFC3), (0x95C00, 0xFFFC7), (0x95C01, 0xFFFC7), (0x95C02, 0xFFFC7),
     (0x99C00, 0xFFFC3), (0x99C01, 0xFFFC3), (0x99C02, 0xFFFC3), (0x9DC00, 0xFFFC3), (0x9DC01, 0xFFFC3), (0x9DC02, 0xFFFC3)] ++
    [(0x95C50, 0xFFFFB), (0x95C51, 0xFFFFB), (0x95C52, 0xFFFFB), (0x95C60, 0xFFFFB), (0x95C61, 0xFFFFB), (0x95C62, 0xFFFFB),
     (0x95C70, 0xFFFFB), (0x95C71, 0xFFFFB), (0x95C72, 0xFFFFB), (0x95C80, 0xFFFFF), (0x95C81, 0xFFFFF), (0x95C82, 0xFFFFF),
     (0x95C84, 0xFFFFF), (0x95C85, 0xFFFFF), (0x95C86, 0xFFFFF), (0x95C88, 0xFFFFF), (0x95C89, 0xFFFFF), (0x95C8A, 0xFFFFF),
     (0x95C8C, 0xFFFFF), (0x95C8D, 0xFFFFF), (0x95C8E, 0xFFFFF), (0x95C90, 0xFFFFF), (0x95C91, 0xFFFFF), (0x95C92, 0xFFFFF)] := by
  decide +kernel

/-- The `match` and `mask` of rows 97 to 144 of opcode_table.json. -/
theorem test_table_keys_third :
  ((allCodes.drop 96).take 48).map (fun c => ((row c).keyMatch.toNat, (row c).keyMask.toNat)) =
    [(0x95CA0, 0xFFFFF), (0x95CA1, 0xFFFFF), (0x95CA2, 0xFFFFF), (0x95CA4, 0xFFFFF), (0x95CA5, 0xFFFFF), (0x95CA6, 0xFFFFF),
     (0x95CB0, 0xFFFFF), (0x95CB1, 0xFFFFF), (0x95CB2, 0xFFFFF), (0x95CD4, 0xFFFFF), (0x95CD5, 0xFFFFF), (0x95CD6, 0xFFFFF),
     (0x95CD8, 0xFFFFB), (0x95CD9, 0xFFFFB), (0x95CDA, 0xFFFFB), (0x95CF4, 0xFFFFF), (0x95CF5, 0xFFFFF), (0x95CF6, 0xFFFFF),
     (0x95CF8, 0xFFFFB), (0x95CF9, 0xFFFFB), (0x95CFA, 0xFFFFB), (0x95D00, 0xFFFC3), (0x95D01, 0xFFFC3), (0x95D02, 0xFFFC3)] ++
    [(0x95D40, 0xFFFC3), (0x95D41, 0xFFFC3), (0x95D42, 0xFFFC3), (0x95D80, 0xFFFC7), (0x95D81, 0xFFFC7), (0x95D82, 0xFFFC7),
     (0xB5C04, 0xFFFC7), (0xB5C05, 0xFFFC7), (0xB5C06, 0xFFFC7), (0xB5C40, 0xFFFC7), (0xB5C41, 0xFFFC7), (0xB5C42, 0xFFFC7),
     (0xB5C44, 0xFFFC7), (0xB5C45, 0xFFFC7), (0xB5C46, 0xFFFC7), (0xB5C84, 0xFFFC7), (0xB5C85, 0xFFFC7), (0xB5C86, 0xFFFC7),
     (0xB5CC0, 0xFFFC7), (0xB5CC1, 0xFFFC7), (0xB5CC2, 0xFFFC7), (0xB5CC4, 0xFFFC7), (0xB5CC5, 0xFFFC7), (0xB5CC6, 0xFFFC7)] := by
  decide +kernel

/-! ### The worked example of every instruction rule -/

/-- The worked example of each rule R300 to R303 of this shape: bytes, then the record the rule gives. -/
theorem test_examples_legacy_shuffles :
  ([(.b64, [0x0F, 0x70, 0xCD, 0xA5],
    record .Pshufw_mm_mmm64_imm8 4 none [regOp (.mm 1), regOp (.mm 5), immOp 0xA5]),
   (.b16, [0x66, 0x0F, 0x70, 0x08, 0xA5],
    mem .DS (some (.gpr16 3)) (some (.gpr16 6)) 1 0x0 0 .Packed128_Int32 <| record .Pshufd_xmm_xmmm128_imm8 5 none [regOp (.xmm 1), memOp, immOp 0xA5]),
   (.b64, [0xF3, 0x44, 0x0F, 0x70, 0xCD, 0xA5],
    record .Pshufhw_xmm_xmmm128_imm8 6 none [regOp (.xmm 9), regOp (.xmm 5), immOp 0xA5]),
   (.b16, [0xF2, 0x0F, 0x70, 0x08, 0xA5],
    mem .DS (some (.gpr16 3)) (some (.gpr16 6)) 1 0x0 0 .Packed128_Int16 <| record .Pshuflw_xmm_xmmm128_imm8 5 none [regOp (.xmm 1), memOp, immOp 0xA5])] : List Example).all Example.holds = true := by
  decide +kernel

/-- The worked example of each rule R304 to R319 of this shape: bytes, then the record the rule gives. -/
theorem test_examples_legacy_mmx_shifts :
  ([(.b32, [0x0F, 0x71, 0xD3, 0x07],
    record .Psrlw_mm_imm8 4 none [regOp (.mm 3), immOp 0x07]),
   (.b64, [0x41, 0x0F, 0x71, 0xE3, 0x07],
    record .Psraw_mm_imm8 5 none [regOp (.mm 3), immOp 0x07]),
   (.b32, [0x0F, 0x71, 0xF3, 0x07],
    record .Psllw_mm_imm8 4 none [regOp (.mm 3), immOp 0x07]),
   (.b64, [0x41, 0x0F, 0x72, 0xD3, 0x07],
    record .Psrld_mm_imm8 5 none [regOp (.mm 3), immOp 0x07]),
   (.b32, [0x0F, 0x72, 0xE3, 0x07],
    record .Psrad_mm_imm8 4 none [regOp (.mm 3), immOp 0x07]),
   (.b64, [0x41, 0x0F, 0x72, 0xF3, 0x07],
    record .Pslld_mm_imm8 5 none [regOp (.mm 3), immOp 0x07]),
   (.b32, [0x0F, 0x73, 0xD3, 0x07],
    record .Psrlq_mm_imm8 4 none [regOp (.mm 3), immOp 0x07]),
   (.b64, [0x41, 0x0F, 0x73, 0xF3, 0x07],
    record .Psllq_mm_imm8 5 none [regOp (.mm 3), immOp 0x07])] : List Example).all Example.holds = true := by
  decide +kernel

/-- The worked example of each rule R305 to R321 of this shape: bytes, then the record the rule gives. -/
theorem test_examples_legacy_xmm_shifts :
  ([(.b32, [0x66, 0x0F, 0x71, 0xD3, 0x07],
    record .Psrlw_xmm_imm8 5 none [regOp (.xmm 3), immOp 0x07]),
   (.b64, [0x66, 0x41, 0x0F, 0x71, 0xE3, 0x07],
    record .Psraw_xmm_imm8 6 none [regOp (.xmm 11), immOp 0x07]),
   (.b32, [0x66, 0x0F, 0x71, 0xF3, 0x07],
    record .Psllw_xmm_imm8 5 none [regOp (.xmm 3), immOp 0x07]),
   (.b64, [0x66, 0x41, 0x0F, 0x72, 0xD3, 0x07],
    record .Psrld_xmm_imm8 6 none [regOp (.xmm 11), immOp 0x07]),
   (.b32, [0x66, 0x0F, 0x72, 0xE3, 0x07],
    record .Psrad_xmm_imm8 5 none [regOp (.xmm 3), immOp 0x07]),
   (.b64, [0x66, 0x41, 0x0F, 0x72, 0xF3, 0x07],
    record .Pslld_xmm_imm8 6 none [regOp (.xmm 11), immOp 0x07]),
   (.b32, [0x66, 0x0F, 0x73, 0xD3, 0x07],
    record .Psrlq_xmm_imm8 5 none [regOp (.xmm 3), immOp 0x07]),
   (.b64, [0x66, 0x41, 0x0F, 0x73, 0xDB, 0x07],
    record .Psrldq_xmm_imm8 6 none [regOp (.xmm 11), immOp 0x07]),
   (.b32, [0x66, 0x0F, 0x73, 0xF3, 0x07],
    record .Psllq_xmm_imm8 5 none [regOp (.xmm 3), immOp 0x07]),
   (.b64, [0x66, 0x41, 0x0F, 0x73, 0xFB, 0x07],
    record .Pslldq_xmm_imm8 6 none [regOp (.xmm 11), immOp 0x07])] : List Example).all Example.holds = true := by
  decide +kernel

/-- The worked example of each rule R322 to R327 of this shape: bytes, then the record the rule gives. -/
theorem test_examples_legacy_compares :
  ([(.b64, [0x0F, 0x74, 0xCD],
    record .Pcmpeqb_mm_mmm64 3 none [regOp (.mm 1), regOp (.mm 5)]),
   (.b16, [0x66, 0x0F, 0x74, 0x08],
    mem .DS (some (.gpr16 3)) (some (.gpr16 6)) 1 0x0 0 .Packed128_Int8 <| record .Pcmpeqb_xmm_xmmm128 4 none [regOp (.xmm 1), memOp]),
   (.b64, [0x0F, 0x75, 0xCD],
    record .Pcmpeqw_mm_mmm64 3 none [regOp (.mm 1), regOp (.mm 5)]),
   (.b16, [0x66, 0x0F, 0x75, 0x08],
    mem .DS (some (.gpr16 3)) (some (.gpr16 6)) 1 0x0 0 .Packed128_Int16 <| record .Pcmpeqw_xmm_xmmm128 4 none [regOp (.xmm 1), memOp]),
   (.b64, [0x0F, 0x76, 0xCD],
    record .Pcmpeqd_mm_mmm64 3 none [regOp (.mm 1), regOp (.mm 5)]),
   (.b16, [0x66, 0x0F, 0x76, 0x08],
    mem .DS (some (.gpr16 3)) (some (.gpr16 6)) 1 0x0 0 .Packed128_Int32 <| record .Pcmpeqd_xmm_xmmm128 4 none [regOp (.xmm 1), memOp])] : List Example).all Example.holds = true := by
  decide +kernel

/-- The worked example of each rule R328 to R328 of this shape: bytes, then the record the rule gives. -/
theorem test_examples_emms :
  ([(.b16, [0x0F, 0x77],
    record .Emms 2 none [])] : List Example).all Example.holds = true := by
  decide +kernel

/-- The worked example of each rule R340 to R345 of this shape: bytes, then the record the rule gives. -/
theorem test_examples_vex_shuffles :
  ([(.b64, [0xC4, 0xC1, 0x79, 0x70, 0xCD, 0xA5],
    record .VEX_Vpshufd_xmm_xmmm128_imm8 6 none [regOp (.xmm 1), regOp (.xmm 13), immOp 0xA5]),
   (.b64, [0xC5, 0xFD, 0x70, 0x0D, 0x00, 0x01, 0x00, 0x00, 0xA5],
    mem .DS (some (.rip)) none 1 0x100 4 .Packed256_Int32 <| record .VEX_Vpshufd_ymm_ymmm256_imm8 9 none [regOp (.ymm 1), memOp, immOp 0xA5]),
   (.b64, [0xC4, 0xC1, 0x7A, 0x70, 0xCD, 0xA5],
    record .VEX_Vpshufhw_xmm_xmmm128_imm8 6 none [regOp (.xmm 1), regOp (.xmm 13), immOp 0xA5]),
   (.b64, [0xC5, 0xFE, 0x70, 0x0D, 0x00, 0x01, 0x00, 0x00, 0xA5],
    mem .DS (some (.rip)) none 1 0x100 4 .Packed256_Int16 <| record .VEX_Vpshufhw_ymm_ymmm256_imm8 9 none [regOp (.ymm 1), memOp, immOp 0xA5]),
   (.b64, [0xC4, 0xC1, 0x7B, 0x70, 0xCD, 0xA5],
    record .VEX_Vpshuflw_xmm_xmmm128_imm8 6 none [regOp (.xmm 1), regOp (.xmm 13), immOp 0xA5]),
   (.b64, [0xC5, 0xFF, 0x70, 0x0D, 0x00, 0x01, 0x00, 0x00, 0xA5],
    mem .DS (some (.rip)) none 1 0x100 4 .Packed256_Int16 <| record .VEX_Vpshuflw_ymm_ymmm256_imm8 9 none [regOp (.ymm 1), memOp, immOp 0xA5])] : List Example).all Example.holds = true := by
  decide +kernel

/-- The worked example of each rule R346 to R365 of this shape: bytes, then the record the rule gives. -/
theorem test_examples_vex_shifts :
  ([(.b32, [0xC5, 0xE9, 0x71, 0xD3, 0x07],
    record .VEX_Vpsrlw_xmm_xmm_imm8 5 none [regOp (.xmm 2), regOp (.xmm 3), immOp 0x07]),
   (.b64, [0xC4, 0xC1, 0x2D, 0x71, 0xD3, 0x07],
    record .VEX_Vpsrlw_ymm_ymm_imm8 6 none [regOp (.ymm 10), regOp (.ymm 11), immOp 0x07]),
   (.b32, [0xC5, 0xE9, 0x71, 0xE3, 0x07],
    record .VEX_Vpsraw_xmm_xmm_imm8 5 none [regOp (.xmm 2), regOp (.xmm 3), immOp 0x07]),
   (.b64, [0xC4, 0xC1, 0x2D, 0x71, 0xE3, 0x07],
    record .VEX_Vpsraw_ymm_ymm_imm8 6 none [regOp (.ymm 10), regOp (.ymm 11), immOp 0x07]),
   (.b32, [0xC5, 0xE9, 0x71, 0xF3, 0x07],
    record .VEX_Vpsllw_xmm_xmm_imm8 5 none [regOp (.xmm 2), regOp (.xmm 3), immOp 0x07]),
   (.b64, [0xC4, 0xC1, 0x2D, 0x71, 0xF3, 0x07],
    record .VEX_Vpsllw_ymm_ymm_imm8 6 none [regOp (.ymm 10), regOp (.ymm 11), immOp 0x07]),
   (.b32, [0xC5, 0xE9, 0x72, 0xD3, 0x07],
    record .VEX_Vpsrld_xmm_xmm_imm8 5 none [regOp (.xmm 2), regOp (.xmm 3), immOp 0x07]),
   (.b64, [0xC4, 0xC1, 0x2D, 0x72, 0xD3, 0x07],
    record .VEX_Vpsrld_ymm_ymm_imm8 6 none [regOp (.ymm 10), regOp (.ymm 11), immOp 0x07]),
   (.b32, [0xC5, 0xE9, 0x72, 0xE3, 0x07],
    record .VEX_Vpsrad_xmm_xmm_imm8 5 none [regOp (.xmm 2), regOp (.xmm 3), immOp 0x07]),
   (.b64, [0xC4, 0xC1, 0x2D, 0x72, 0xE3, 0x07],
    record .VEX_Vpsrad_ymm_ymm_imm8 6 none [regOp (.ymm 10), regOp (.ymm 11), immOp 0x07])] ++
  [(.b32, [0xC5, 0xE9, 0x72, 0xF3, 0x07],
    record .VEX_Vpslld_xmm_xmm_imm8 5 none [regOp (.xmm 2), regOp (.xmm 3), immOp 0x07]),
   (.b64, [0xC4, 0xC1, 0x2D, 0x72, 0xF3, 0x07],
    record .VEX_Vpslld_ymm_ymm_imm8 6 none [regOp (.ymm 10), regOp (.ymm 11), immOp 0x07]),
   (.b32, [0xC5, 0xE9, 0x73, 0xD3, 0x07],
    record .VEX_Vpsrlq_xmm_xmm_imm8 5 none [regOp (.xmm 2), regOp (.xmm 3), immOp 0x07]),
   (.b64, [0xC4, 0xC1, 0x2D, 0x73, 0xD3, 0x07],
    record .VEX_Vpsrlq_ymm_ymm_imm8 6 none [regOp (.ymm 10), regOp (.ymm 11), immOp 0x07]),
   (.b32, [0xC5, 0xE9, 0x73, 0xDB, 0x07],
    record .VEX_Vpsrldq_xmm_xmm_imm8 5 none [regOp (.xmm 2), regOp (.xmm 3), immOp 0x07]),
   (.b64, [0xC4, 0xC1, 0x2D, 0x73, 0xDB, 0x07],
    record .VEX_Vpsrldq_ymm_ymm_imm8 6 none [regOp (.ymm 10), regOp (.ymm 11), immOp 0x07]),
   (.b32, [0xC5, 0xE9, 0x73, 0xF3, 0x07],
    record .VEX_Vpsllq_xmm_xmm_imm8 5 none [regOp (.xmm 2), regOp (.xmm 3), immOp 0x07]),
   (.b64, [0xC4, 0xC1, 0x2D, 0x73, 0xF3, 0x07],
    record .VEX_Vpsllq_ymm_ymm_imm8 6 none [regOp (.ymm 10), regOp (.ymm 11), immOp 0x07]),
   (.b32, [0xC5, 0xE9, 0x73, 0xFB, 0x07],
    record .VEX_Vpslldq_xmm_xmm_imm8 5 none [regOp (.xmm 2), regOp (.xmm 3), immOp 0x07]),
   (.b64, [0xC4, 0xC1, 0x2D, 0x73, 0xFB, 0x07],
    record .VEX_Vpslldq_ymm_ymm_imm8 6 none [regOp (.ymm 10), regOp (.ymm 11), immOp 0x07])] : List Example).all Example.holds = true := by
  decide +kernel

/-- The worked example of each rule R366 to R371 of this shape: bytes, then the record the rule gives. -/
theorem test_examples_vex_compares :
  ([(.b64, [0xC5, 0xE9, 0x74, 0xCB],
    record .VEX_Vpcmpeqb_xmm_xmm_xmmm128 4 none [regOp (.xmm 1), regOp (.xmm 2), regOp (.xmm 3)]),
   (.b64, [0xC5, 0xED, 0x74, 0x0C, 0x48],
    mem .DS (some (.gpr64 0)) (some (.gpr64 1)) 2 0x0 0 .Packed256_Int8 <| record .VEX_Vpcmpeqb_ymm_ymm_ymmm256 5 none [regOp (.ymm 1), regOp (.ymm 2), memOp]),
   (.b64, [0xC5, 0xE9, 0x75, 0xCB],
    record .VEX_Vpcmpeqw_xmm_xmm_xmmm128 4 none [regOp (.xmm 1), regOp (.xmm 2), regOp (.xmm 3)]),
   (.b64, [0xC5, 0xED, 0x75, 0x0C, 0x48],
    mem .DS (some (.gpr64 0)) (some (.gpr64 1)) 2 0x0 0 .Packed256_Int16 <| record .VEX_Vpcmpeqw_ymm_ymm_ymmm256 5 none [regOp (.ymm 1), regOp (.ymm 2), memOp]),
   (.b64, [0xC5, 0xE9, 0x76, 0xCB],
    record .VEX_Vpcmpeqd_xmm_xmm_xmmm128 4 none [regOp (.xmm 1), regOp (.xmm 2), regOp (.xmm 3)]),
   (.b64, [0xC5, 0xED, 0x76, 0x0C, 0x48],
    mem .DS (some (.gpr64 0)) (some (.gpr64 1)) 2 0x0 0 .Packed256_Int32 <| record .VEX_Vpcmpeqd_ymm_ymm_ymmm256 5 none [regOp (.ymm 1), regOp (.ymm 2), memOp])] : List Example).all Example.holds = true := by
  decide +kernel

/-- The worked example of each rule R372 to R373 of this shape: bytes, then the record the rule gives. -/
theorem test_examples_vex_zeros :
  ([(.b64, [0xC5, 0xF8, 0x77],
    record .VEX_Vzeroupper 3 none []),
   (.b32, [0xC4, 0xE1, 0x7C, 0x77],
    record .VEX_Vzeroall 4 none [])] : List Example).all Example.holds = true := by
  decide +kernel

/-- The worked example of each rule R380 to R388 of this shape: bytes, then the record the rule gives. -/
theorem test_examples_evex_shuffles :
  ([(.b64, [0x62, 0x21, 0x7D, 0x89, 0x70, 0xCD, 0xA5],
    masked (some (.k 1)) true <| record .EVEX_Vpshufd_xmm_k1z_xmmm128b32_imm8 7 none [regOp (.xmm 25), regOp (.xmm 21), immOp 0xA5]),
   (.b64, [0x62, 0xF1, 0x7D, 0xAB, 0x70, 0x50, 0x01, 0xA5],
    masked (some (.k 3)) true <| mem .DS (some (.gpr64 0)) none 1 0x20 1 .Packed256_Int32 <| record .EVEX_Vpshufd_ymm_k1z_ymmm256b32_imm8 8 none [regOp (.ymm 2), memOp, immOp 0xA5]),
   (.b64, [0x62, 0x21, 0x7D, 0xC9, 0x70, 0xCD, 0xA5],
    masked (some (.k 1)) true <| record .EVEX_Vpshufd_zmm_k1z_zmmm512b32_imm8 7 none [regOp (.zmm 25), regOp (.zmm 21), immOp 0xA5]),
   (.b64, [0x62, 0xF1, 0x7E, 0x8B, 0x70, 0x50, 0x01, 0xA5],
    masked (some (.k 3)) true <| mem .DS (some (.gpr64 0)) none 1 0x10 1 .Packed128_Int16 <| record .EVEX_Vpshufhw_xmm_k1z_xmmm128_imm8 8 none [regOp (.xmm 2), memOp, immOp 0xA5]),
   (.b64, [0x62, 0x21, 0x7E, 0xA9, 0x70, 0xCD, 0xA5],
    masked (some (.k 1)) true <| record .EVEX_Vpshufhw_ymm_k1z_ymmm256_imm8 7 none [regOp (.ymm 25), regOp (.ymm 21), immOp 0xA5]),
   (.b64, [0x62, 0xF1, 0x7E, 0xCB, 0x70, 0x50, 0x01, 0xA5],
    masked (some (.k 3)) true <| mem .DS (some (.gpr64 0)) none 1 0x40 1 .Packed512_Int16 <| record .EVEX_Vpshufhw_zmm_k1z_zmmm512_imm8 8 none [regOp (.zmm 2), memOp, immOp 0xA5]),
   (.b64, [0x62, 0x21, 0x7F, 0x89, 0x70, 0xCD, 0xA5],
    masked (some (.k 1)) true <| record .EVEX_Vpshuflw_xmm_k1z_xmmm128_imm8 7 none [regOp (.xmm 25), regOp (.xmm 21), immOp 0xA5]),
   (.b64, [0x62, 0xF1, 0x7F, 0xAB, 0x70, 0x50, 0x01, 0xA5],
    masked (some (.k 3)) true <| mem .DS (some (.gpr64 0)) none 1 0x20 1 .Packed256_Int16 <| record .EVEX_Vpshuflw_ymm_k1z_ymmm256_imm8 8 none [regOp (.ymm 2), memOp, immOp 0xA5]),
   (.b64, [0x62, 0x21, 0x7F, 0xC9, 0x70, 0xCD, 0xA5],
    masked (some (.k 1)) true <| record .EVEX_Vpshuflw_zmm_k1z_zmmm512_imm8 7 none [regOp (.zmm 25), regOp (.zmm 21), immOp 0xA5])] : List Example).all Example.holds = true := by
  decide +kernel

/-- The worked example of each rule R389 to R397 of this shape: bytes, then the record the rule gives. -/
theorem test_examples_evex_word_shifts :
  ([(.b64, [0x62, 0xB1, 0x6D, 0x01, 0x71, 0xD3, 0x04],
    masked (some (.k 1)) false <| record .EVEX_Vpsrlw_xmm_k1z_xmmm128_imm8 7 none [regOp (.xmm 18), regOp (.xmm 19), immOp 0x04]),
   (.b32, [0x62, 0xF1, 0x6D, 0xAA, 0x71, 0x50, 0x01, 0x04],
    masked (some (.k 2)) true <| mem .DS (some (.gpr32 0)) none 1 0x20 1 .Packed256_UInt16 <| record .EVEX_Vpsrlw_ymm_k1z_ymmm256_imm8 8 none [regOp (.ymm 2), memOp, immOp 0x04]),
   (.b64, [0x62, 0xB1, 0x6D, 0x41, 0x71, 0xD3, 0x04],
    masked (some (.k 1)) false <| record .EVEX_Vpsrlw_zmm_k1z_zmmm512_imm8 7 none [regOp (.zmm 18), regOp (.zmm 19), immOp 0x04]),
   (.b32, [0x62, 0xF1, 0x6D, 0x8A, 0x71, 0x60, 0x01, 0x04],
    masked (some (.k 2)) true <| mem .DS (some (.gpr32 0)) none 1 0x10 1 .Packed128_Int16 <| record .EVEX_Vpsraw_xmm_k1z_xmmm128_imm8 8 none [regOp (.xmm 2), memOp, immOp 0x04]),
   (.b64, [0x62, 0xB1, 0x6D, 0x21, 0x71, 0xE3, 0x04],
    masked (some (.k 1)) false <| record .EVEX_Vpsraw_ymm_k1z_ymmm256_imm8 7 none [regOp (.ymm 18), regOp (.ymm 19), immOp 0x04]),
   (.b32, [0x62, 0xF1, 0x6D, 0xCA, 0x71, 0x60, 0x01, 0x04],
    masked (some (.k 2)) true <| mem .DS (some (.gpr32 0)) none 1 0x40 1 .Packed512_Int16 <| record .EVEX_Vpsraw_zmm_k1z_zmmm512_imm8 8 none [regOp (.zmm 2), memOp, immOp 0x04]),
   (.b64, [0x62, 0xB1, 0x6D, 0x01, 0x71, 0xF3, 0x04],
    masked (some (.k 1)) false <| record .EVEX_Vpsllw_xmm_k1z_xmmm128_imm8 7 none [regOp (.xmm 18), regOp (.xmm 19), immOp 0x04]),
   (.b32, [0x62, 0xF1, 0x6D, 0xAA, 0x71, 0x70, 0x01, 0x04],
    masked (some (.k 2)) true <| mem .DS (some (.gpr32 0)) none 1 0x20 1 .Packed256_UInt16 <| record .EVEX_Vpsllw_ymm_k1z_ymmm256_imm8 8 none [regOp (.ymm 2), memOp, immOp 0x04]),
   (.b64, [0x62, 0xB1, 0x6D, 0x41, 0x71, 0xF3, 0x04],
    masked (some (.k 1)) false <| record .EVEX_Vpsllw_zmm_k1z_zmmm512_imm8 7 none [regOp (.zmm 18), regOp (.zmm 19), immOp 0x04])] : List Example).all Example.holds = true := by
  decide +kernel

/-- The worked example of each rule R398 to R409 of this shape: bytes, then the record the rule gives. -/
theorem test_examples_evex_rotates :
  ([(.b64, [0x62, 0xB1, 0x6D, 0x01, 0x72, 0xC3, 0x04],
    masked (some (.k 1)) false <| record .EVEX_Vprord_xmm_k1z_xmmm128b32_imm8 7 none [regOp (.xmm 18), regOp (.xmm 19), immOp 0x04]),
   (.b32, [0x62, 0xF1, 0x6D, 0xAA, 0x72, 0x40, 0x01, 0x04],
    masked (some (.k 2)) true <| mem .DS (some (.gpr32 0)) none 1 0x20 1 .Packed256_UInt32 <| record .EVEX_Vprord_ymm_k1z_ymmm256b32_imm8 8 none [regOp (.ymm 2), memOp, immOp 0x04]),
   (.b64, [0x62, 0xB1, 0x6D, 0x41, 0x72, 0xC3, 0x04],
    masked (some (.k 1)) false <| record .EVEX_Vprord_zmm_k1z_zmmm512b32_imm8 7 none [regOp (.zmm 18), regOp (.zmm 19), immOp 0x04]),
   (.b64, [0x62, 0xF1, 0xE5, 0x19, 0x72, 0x40, 0x01, 0xA5],
    masked (some (.k 1)) false <| mem .DS (some (.gpr64 0)) none 1 0x8 1 .Broadcast128_UInt64 <| record .EVEX_Vprorq_xmm_k1z_xmmm128b64_imm8 8 none [regOp (.xmm 3), memOp, immOp 0xA5]),
   (.b64, [0x62, 0xB1, 0xED, 0x21, 0x72, 0xC3, 0x04],
    masked (some (.k 1)) false <| record .EVEX_Vprorq_ymm_k1z_ymmm256b64_imm8 7 none [regOp (.ymm 18), regOp (.ymm 19), immOp 0x04]),
   (.b32, [0x62, 0xF1, 0xED, 0xCA, 0x72, 0x40, 0x01, 0x04],
    masked (some (.k 2)) true <| mem .DS (some (.gpr32 0)) none 1 0x40 1 .Packed512_UInt64 <| record .EVEX_Vprorq_zmm_k1z_zmmm512b64_imm8 8 none [regOp (.zmm 2), memOp, immOp 0x04]),
   (.b64, [0x62, 0xB1, 0x6D, 0x01, 0x72, 0xCB, 0x04],
    masked (some (.k 1)) false <| record .EVEX_Vprold_xmm_k1z_xmmm128b32_imm8 7 none [regOp (.xmm 18), regOp (.xmm 19), immOp 0x04]),
   (.b32, [0x62, 0xF1, 0x6D, 0xAA, 0x72, 0x48, 0x01, 0x04],
    masked (some (.k 2)) true <| mem .DS (some (.gpr32 0)) none 1 0x20 1 .Packed256_UInt32 <| record .EVEX_Vprold_ymm_k1z_ymmm256b32_imm8 8 none [regOp (.ymm 2), memOp, immOp 0x04]),
   (.b64, [0x62, 0xB1, 0x6D, 0x41, 0x72, 0xCB, 0x04],
    masked (some (.k 1)) false <| record .EVEX_Vprold_zmm_k1z_zmmm512b32_imm8 7 none [regOp (.zmm 18), regOp (.zmm 19), immOp 0x04]),
   (.b64, [0x62, 0xF1, 0xE5, 0x19, 0x72, 0x48, 0x01, 0xA5],
    masked (some (.k 1)) false <| mem .DS (some (.gpr64 0)) none 1 0x8 1 .Broadcast128_UInt64 <| record .EVEX_Vprolq_xmm_k1z_xmmm128b64_imm8 8 none [regOp (.xmm 3), memOp, immOp 0xA5])] ++
  [(.b64, [0x62, 0xB1, 0xED, 0x21, 0x72, 0xCB, 0x04],
    masked (some (.k 1)) false <| record .EVEX_Vprolq_ymm_k1z_ymmm256b64_imm8 7 none [regOp (.ymm 18), regOp (.ymm 19), immOp 0x04]),
   (.b32, [0x62, 0xF1, 0xED, 0xCA, 0x72, 0x48, 0x01, 0x04],
    masked (some (.k 2)) true <| mem .DS (some (.gpr32 0)) none 1 0x40 1 .Packed512_UInt64 <| record .EVEX_Vprolq_zmm_k1z_zmmm512b64_imm8 8 none [regOp (.zmm 2), memOp, immOp 0x04])] : List Example).all Example.holds = true := by
  decide +kernel

/-- The worked example of each rule R410 to R430 of this shape: bytes, then the record the rule gives. -/
theorem test_examples_evex_element_shifts :
  ([(.b64, [0x62, 0xB1, 0x6D, 0x01, 0x72, 0xD3, 0x04],
    masked (some (.k 1)) false <| record .EVEX_Vpsrld_xmm_k1z_xmmm128b32_imm8 7 none [regOp (.xmm 18), regOp (.xmm 19), immOp 0x04]),
   (.b32, [0x62, 0xF1, 0x6D, 0xAA, 0x72, 0x50, 0x01, 0x04],
    masked (some (.k 2)) true <| mem .DS (some (.gpr32 0)) none 1 0x20 1 .Packed256_UInt32 <| record .EVEX_Vpsrld_ymm_k1z_ymmm256b32_imm8 8 none [regOp (.ymm 2), memOp, immOp 0x04]),
   (.b64, [0x62, 0xB1, 0x6D, 0x41, 0x72, 0xD3, 0x04],
    masked (some (.k 1)) false <| record .EVEX_Vpsrld_zmm_k1z_zmmm512b32_imm8 7 none [regOp (.zmm 18), regOp (.zmm 19), immOp 0x04]),
   (.b64, [0x62, 0xF1, 0x65, 0x19, 0x72, 0x60, 0x01, 0xA5],
    masked (some (.k 1)) false <| mem .DS (some (.gpr64 0)) none 1 0x4 1 .Broadcast128_Int32 <| record .EVEX_Vpsrad_xmm_k1z_xmmm128b32_imm8 8 none [regOp (.xmm 3), memOp, immOp 0xA5]),
   (.b64, [0x62, 0xB1, 0x6D, 0x21, 0x72, 0xE3, 0x04],
    masked (some (.k 1)) false <| record .EVEX_Vpsrad_ymm_k1z_ymmm256b32_imm8 7 none [regOp (.ymm 18), regOp (.ymm 19), immOp 0x04]),
   (.b32, [0x62, 0xF1, 0x6D, 0xCA, 0x72, 0x60, 0x01, 0x04],
    masked (some (.k 2)) true <| mem .DS (some (.gpr32 0)) none 1 0x40 1 .Packed512_Int32 <| record .EVEX_Vpsrad_zmm_k1z_zmmm512b32_imm8 8 none [regOp (.zmm 2), memOp, immOp 0x04]),
   (.b64, [0x62, 0xB1, 0xED, 0x01, 0x72, 0xE3, 0x04],
    masked (some (.k 1)) false <| record .EVEX_Vpsraq_xmm_k1z_xmmm128b64_imm8 7 none [regOp (.xmm 18), regOp (.xmm 19), immOp 0x04]),
   (.b32, [0x62, 0xF1, 0xED, 0xAA, 0x72, 0x60, 0x01, 0x04],
    masked (some (.k 2)) true <| mem .DS (some (.gpr32 0)) none 1 0x20 1 .Packed256_Int64 <| record .EVEX_Vpsraq_ymm_k1z_ymmm256b64_imm8 8 none [regOp (.ymm 2), memOp, immOp 0x04]),
   (.b64, [0x62, 0xB1, 0xED, 0x41, 0x72, 0xE3, 0x04],
    masked (some (.k 1)) false <| record .EVEX_Vpsraq_zmm_k1z_zmmm512b64_imm8 7 none [regOp (.zmm 18), regOp (.zmm 19), immOp 0x04]),
   (.b64, [0x62, 0xF1, 0x65, 0x19, 0x72, 0x70, 0x01, 0xA5],
    masked (some (.k 1)) false <| mem .DS (some (.gpr64 0)) none 1 0x4 1 .Broadcast128_UInt32 <| record .EVEX_Vpslld_xmm_k1z_xmmm128b32_imm8 8 none [regOp (.xmm 3), memOp, immOp 0xA5])] ++
  [(.b64, [0x62, 0xB1, 0x6D, 0x21, 0x72, 0xF3, 0x04],
    masked (some (.k 1)) false <| record .EVEX_Vpslld_ymm_k1z_ymmm256b32_imm8 7 none [regOp (.ymm 18), regOp (.ymm 19), immOp 0x04]),
   (.b32, [0x62, 0xF1, 0x6D, 0xCA, 0x72, 0x70, 0x01, 0x04],
    masked (some (.k 2)) true <| mem .DS (some (.gpr32 0)) none 1 0x40 1 .Packed512_UInt32 <| record .EVEX_Vpslld_zmm_k1z_zmmm512b32_imm8 8 none [regOp (.zmm 2), memOp, immOp 0x04]),
   (.b64, [0x62, 0xB1, 0xED, 0x01, 0x73, 0xD3, 0x04],
    masked (some (.k 1)) false <| record .EVEX_Vpsrlq_xmm_k1z_xmmm128b64_imm8 7 none [regOp (.xmm 18), regOp (.xmm 19), immOp 0x04]),
   (.b32, [0x62, 0xF1, 0xED, 0xAA, 0x73, 0x50, 0x01, 0x04],
    masked (some (.k 2)) true <| mem .DS (some (.gpr32 0)) none 1 0x20 1 .Packed256_UInt64 <| record .EVEX_Vpsrlq_ymm_k1z_ymmm256b64_imm8 8 none [regOp (.ymm 2), memOp, immOp 0x04]),
   (.b64, [0x62, 0xB1, 0xED, 0x41, 0x73, 0xD3, 0x04],
    masked (some (.k 1)) false <| record .EVEX_Vpsrlq_zmm_k1z_zmmm512b64_imm8 7 none [regOp (.zmm 18), regOp (.zmm 19), immOp 0x04]),
   (.b64, [0x62, 0xF1, 0xE5, 0x19, 0x73, 0x70, 0x01, 0xA5],
    masked (some (.k 1)) false <| mem .DS (some (.gpr64 0)) none 1 0x8 1 .Broadcast128_UInt64 <| record .EVEX_Vpsllq_xmm_k1z_xmmm128b64_imm8 8 none [regOp (.xmm 3), memOp, immOp 0xA5]),
   (.b64, [0x62, 0xB1, 0xED, 0x21, 0x73, 0xF3, 0x04],
    masked (some (.k 1)) false <| record .EVEX_Vpsllq_ymm_k1z_ymmm256b64_imm8 7 none [regOp (.ymm 18), regOp (.ymm 19), immOp 0x04]),
   (.b32, [0x62, 0xF1, 0xED, 0xCA, 0x73, 0x70, 0x01, 0x04],
    masked (some (.k 2)) true <| mem .DS (some (.gpr32 0)) none 1 0x40 1 .Packed512_UInt64 <| record .EVEX_Vpsllq_zmm_k1z_zmmm512b64_imm8 8 none [regOp (.zmm 2), memOp, immOp 0x04])] : List Example).all Example.holds = true := by
  decide +kernel

/-- The worked example of each rule R425 to R433 of this shape: bytes, then the record the rule gives. -/
theorem test_examples_evex_byte_shifts :
  ([(.b64, [0x62, 0xF1, 0x6D, 0x00, 0x73, 0xDB, 0x04],
    record .EVEX_Vpsrldq_xmm_xmmm128_imm8 7 none [regOp (.xmm 18), regOp (.xmm 3), immOp 0x04]),
   (.b32, [0x62, 0xF1, 0x6D, 0x28, 0x73, 0x58, 0x01, 0x04],
    mem .DS (some (.gpr32 0)) none 1 0x20 1 .UInt256 <| record .EVEX_Vpsrldq_ymm_ymmm256_imm8 8 none [regOp (.ymm 2), memOp, immOp 0x04]),
   (.b64, [0x62, 0xF1, 0x6D, 0x40, 0x73, 0xDB, 0x04],
    record .EVEX_Vpsrldq_zmm_zmmm512_imm8 7 none [regOp (.zmm 18), regOp (.zmm 3), immOp 0x04]),
   (.b32, [0x62, 0xF1, 0x6D, 0x08, 0x73, 0x78, 0x01, 0x04],
    mem .DS (some (.gpr32 0)) none 1 0x10 1 .UInt128 <| record .EVEX_Vpslldq_xmm_xmmm128_imm8 8 none [regOp (.xmm 2), memOp, immOp 0x04]),
   (.b64, [0x62, 0xF1, 0x6D, 0x20, 0x73, 0xFB, 0x04],
    record .EVEX_Vpslldq_ymm_ymmm256_imm8 7 none [regOp (.ymm 18), regOp (.ymm 3), immOp 0x04]),
   (.b32, [0x62, 0xF1, 0x6D, 0x48, 0x73, 0x78, 0x01, 0x04],
    mem .DS (some (.gpr32 0)) none 1 0x40 1 .UInt512 <| record .EVEX_Vpslldq_zmm_zmmm512_imm8 8 none [regOp (.zmm 2), memOp, immOp 0x04])] : List Example).all Example.holds = true := by
  decide +kernel

/-- The worked example of each rule R440 to R448 of this shape: bytes, then the record the rule gives. -/
theorem test_examples_evex_compares :
  ([(.b64, [0x62, 0xF1, 0x65, 0x09, 0x74, 0xD4],
    masked (some (.k 1)) false <| record .EVEX_Vpcmpeqb_kr_k1_xmm_xmmm128 6 none [regOp (.k 2), regOp (.xmm 3), regOp (.xmm 4)]),
   (.b64, [0x62, 0xF1, 0x65, 0x28, 0x74, 0x50, 0xFF],
    mem .DS (some (.gpr64 0)) none 1 0xFFFFFFE0 1 .Packed256_Int8 <| record .EVEX_Vpcmpeqb_kr_k1_ymm_ymmm256 7 none [regOp (.k 2), regOp (.ymm 3), memOp]),
   (.b64, [0x62, 0xF1, 0x65, 0x49, 0x74, 0xD4],
    masked (some (.k 1)) false <| record .EVEX_Vpcmpeqb_kr_k1_zmm_zmmm512 6 none [regOp (.k 2), regOp (.zmm 3), regOp (.zmm 4)]),
   (.b64, [0x62, 0xF1, 0x65, 0x08, 0x75, 0x50, 0xFF],
    mem .DS (some (.gpr64 0)) none 1 0xFFFFFFF0 1 .Packed128_Int16 <| record .EVEX_Vpcmpeqw_kr_k1_xmm_xmmm128 7 none [regOp (.k 2), regOp (.xmm 3), memOp]),
   (.b64, [0x62, 0xF1, 0x65, 0x29, 0x75, 0xD4],
    masked (some (.k 1)) false <| record .EVEX_Vpcmpeqw_kr_k1_ymm_ymmm256 6 none [regOp (.k 2), regOp (.ymm 3), regOp (.ymm 4)]),
   (.b64, [0x62, 0xF1, 0x65, 0x48, 0x75, 0x50, 0xFF],
    mem .DS (some (.gpr64 0)) none 1 0xFFFFFFC0 1 .Packed512_Int16 <| record .EVEX_Vpcmpeqw_kr_k1_zmm_zmmm512 7 none [regOp (.k 2), regOp (.zmm 3), memOp]),
   (.b64, [0x62, 0xF1, 0x65, 0x09, 0x76, 0xD4],
    masked (some (.k 1)) false <| record .EVEX_Vpcmpeqd_kr_k1_xmm_xmmm128b32 6 none [regOp (.k 2), regOp (.xmm 3), regOp (.xmm 4)]),
   (.b64, [0x62, 0xF1, 0x65, 0x28, 0x76, 0x50, 0xFF],
    mem .DS (some (.gpr64 0)) none 1 0xFFFFFFE0 1 .Packed256_Int32 <| record .EVEX_Vpcmpeqd_kr_k1_ymm_ymmm256b32 7 none [regOp (.k 2), regOp (.ymm 3), memOp]),
   (.b64, [0x62, 0xF1, 0x65, 0x49, 0x76, 0xD4],
    masked (some (.k 1)) false <| record .EVEX_Vpcmpeqd_kr_k1_zmm_zmmm512b32 6 none [regOp (.k 2), regOp (.zmm 3), regOp (.zmm 4)])] : List Example).all Example.holds = true := by
  decide +kernel

/-- The worked example of each rule R449 to R466 of this shape: bytes, then the record the rule gives. -/
theorem test_examples_evex_concat_shifts :
  ([(.b64, [0x62, 0x73, 0xED, 0x8A, 0x70, 0xCB, 0x03],
    masked (some (.k 2)) true <| record .EVEX_Vpshldw_xmm_k1z_xmm_xmmm128_imm8 7 none [regOp (.xmm 9), regOp (.xmm 2), regOp (.xmm 3), immOp 0x03]),
   (.b64, [0x62, 0xF3, 0xED, 0x2A, 0x70, 0x48, 0x01, 0x03],
    masked (some (.k 2)) false <| mem .DS (some (.gpr64 0)) none 1 0x20 1 .Packed256_UInt16 <| record .EVEX_Vpshldw_ymm_k1z_ymm_ymmm256_imm8 8 none [regOp (.ymm 1), regOp (.ymm 2), memOp, immOp 0x03]),
   (.b64, [0x62, 0x73, 0xED, 0xCA, 0x70, 0xCB, 0x03],
    masked (some (.k 2)) true <| record .EVEX_Vpshldw_zmm_k1z_zmm_zmmm512_imm8 7 none [regOp (.zmm 9), regOp (.zmm 2), regOp (.zmm 3), immOp 0x03]),
   (.b64, [0x62, 0xF3, 0x65, 0x19, 0x71, 0x50, 0x01, 0xA5],
    masked (some (.k 1)) false <| mem .DS (some (.gpr64 0)) none 1 0x4 1 .Broadcast128_UInt32 <| record .EVEX_Vpshldd_xmm_k1z_xmm_xmmm128b32_imm8 8 none [regOp (.xmm 2), regOp (.xmm 3), memOp, immOp 0xA5]),
   (.b64, [0x62, 0x73, 0x6D, 0xAA, 0x71, 0xCB, 0x03],
    masked (some (.k 2)) true <| record .EVEX_Vpshldd_ymm_k1z_ymm_ymmm256b32_imm8 7 none [regOp (.ymm 9), regOp (.ymm 2), regOp (.ymm 3), immOp 0x03]),
   (.b64, [0x62, 0xF3, 0x6D, 0x4A, 0x71, 0x48, 0x01, 0x03],
    masked (some (.k 2)) false <| mem .DS (some (.gpr64 0)) none 1 0x40 1 .Packed512_UInt32 <| record .EVEX_Vpshldd_zmm_k1z_zmm_zmmm512b32_imm8 8 none [regOp (.zmm 1), regOp (.zmm 2), memOp, immOp 0x03]),
   (.b64, [0x62, 0x73, 0xED, 0x8A, 0x71, 0xCB, 0x03],
    masked (some (.k 2)) true <| record .EVEX_Vpshldq_xmm_k1z_xmm_xmmm128b64_imm8 7 none [regOp (.xmm 9), regOp (.xmm 2), regOp (.xmm 3), immOp 0x03]),
   (.b64, [0x62, 0xF3, 0xED, 0x2A, 0x71, 0x48, 0x01, 0x03],
    masked (some (.k 2)) false <| mem .DS (some (.gpr64 0)) none 1 0x20 1 .Packed256_UInt64 <| record .EVEX_Vpshldq_ymm_k1z_ymm_ymmm256b64_imm8 8 none [regOp (.ymm 1), regOp (.ymm 2), memOp, immOp 0x03]),
   (.b64, [0x62, 0x73, 0xED, 0xCA, 0x71, 0xCB, 0x03],
    masked (some (.k 2)) true <| record .EVEX_Vpshldq_zmm_k1z_zmm_zmmm512b64_imm8 7 none [regOp (.zmm 9), regOp (.zmm 2), regOp (.zmm 3), immOp 0x03]),
   (.b64, [0x62, 0xF3, 0xED, 0x0A, 0x72, 0x48, 0x01, 0x03],
    masked (some (.k 2)) false <| mem .DS (some (.gpr64 0)) none 1 0x10 1 .Packed128_UInt16 <| record .EVEX_Vpshrdw_xmm_k1z_xmm_xmmm128_imm8 8 none [regOp (.xmm 1), regOp (.xmm 2), memOp, immOp 0x03])] ++
  [(.b64, [0x62, 0x73, 0xED, 0xAA, 0x72, 0xCB, 0x03],
    masked (some (.k 2)) true <| record .EVEX_Vpshrdw_ymm_k1z_ymm_ymmm256_imm8 7 none [regOp (.ymm 9), regOp (.ymm 2), regOp (.ymm 3), immOp 0x03]),
   (.b64, [0x62, 0xF3, 0xED, 0x4A, 0x72, 0x48, 0x01, 0x03],
    masked (some (.k 2)) false <| mem .DS (some (.gpr64 0)) none 1 0x40 1 .Packed512_UInt16 <| record .EVEX_Vpshrdw_zmm_k1z_zmm_zmmm512_imm8 8 none [regOp (.zmm 1), regOp (.zmm 2), memOp, immOp 0x03]),
   (.b64, [0x62, 0x73, 0x6D, 0x8A, 0x73, 0xCB, 0x03],
    masked (some (.k 2)) true <| record .EVEX_Vpshrdd_xmm_k1z_xmm_xmmm128b32_imm8 7 none [regOp (.xmm 9), regOp (.xmm 2), regOp (.xmm 3), immOp 0x03]),
   (.b64, [0x62, 0xF3, 0x6D, 0x2A, 0x73, 0x48, 0x01, 0x03],
    masked (some (.k 2)) false <| mem .DS (some (.gpr64 0)) none 1 0x20 1 .Packed256_UInt32 <| record .EVEX_Vpshrdd_ymm_k1z_ymm_ymmm256b32_imm8 8 none [regOp (.ymm 1), regOp (.ymm 2), memOp, immOp 0x03]),
   (.b64, [0x62, 0x73, 0x6D, 0xCA, 0x73, 0xCB, 0x03],
    masked (some (.k 2)) true <| record .EVEX_Vpshrdd_zmm_k1z_zmm_zmmm512b32_imm8 7 none [regOp (.zmm 9), regOp (.zmm 2), regOp (.zmm 3), immOp 0x03]),
   (.b64, [0x62, 0xF3, 0xE5, 0x19, 0x73, 0x50, 0x01, 0xA5],
    masked (some (.k 1)) false <| mem .DS (some (.gpr64 0)) none 1 0x8 1 .Broadcast128_UInt64 <| record .EVEX_Vpshrdq_xmm_k1z_xmm_xmmm128b64_imm8 8 none [regOp (.xmm 2), regOp (.xmm 3), memOp, immOp 0xA5]),
   (.b64, [0x62, 0x73, 0xED, 0xAA, 0x73, 0xCB, 0x03],
    masked (some (.k 2)) true <| record .EVEX_Vpshrdq_ymm_k1z_ymm_ymmm256b64_imm8 7 none [regOp (.ymm 9), regOp (.ymm 2), regOp (.ymm 3), immOp 0x03]),
   (.b64, [0x62, 0xF3, 0xED, 0x4A, 0x73, 0x48, 0x01, 0x03],
    masked (some (.k 2)) false <| mem .DS (some (.gpr64 0)) none 1 0x40 1 .Packed512_UInt64 <| record .EVEX_Vpshrdq_zmm_k1z_zmm_zmmm512b64_imm8 8 none [regOp (.zmm 1), regOp (.zmm 2), memOp, immOp 0x03])] : List Example).all Example.holds = true := by
  decide +kernel

/-! ### Words from the spec's encodings, read and written -/

/-- R71 to R80, field by field: prefixes, REX 0100WRXB, ModRM mod:reg:rm, imm8. -/
theorem test_decode_legacy_word :
    decodeInstr .Architectural .b64 [0x64, 0x66, 0b0100_0101, 0x0F, 0x70, 0b11_001_101, 0xA5] =
      some (.Pshufd_xmm_xmmm128_imm8 { LegacyPrefix.none with seg := some .FS, opsize := true, rex := some 0b0101 }
        0b001 (.reg 0b101) 0xA5) ∧
    decodeInstr .Architectural .b32 [0x0F, 0x71, 0b11_010_011, 0x07] = some (.Psrlw_mm_imm8 LegacyPrefix.none 0b011 7) ∧
    decodeInstr .Architectural .b64 [0x0F, 0x77] = some (.Emms LegacyPrefix.none) := by decide +kernel

/-- R73, R74: VEX2 byte 1 is ~R ~vvvv L pp; VEX3 byte 1 is ~R ~X ~B m-mmmm, byte 2 is W ~vvvv L pp. -/
theorem test_decode_vex_word :
    decodeInstr .Architectural .b64 [0xC5, 0b0_0101_1_01, 0x71, 0b11_110_011, 0x07] =
      some (.VEX_Vpsllw_ymm_ymm_imm8 { VexPrefix.none with R := true, vvvv := 0b1010 } 0b011 7) ∧
    decodeInstr .Architectural .b64 [0xC4, 0b1_0_0_00001, 0b1_0111_0_01, 0x74, 0b01_000_100, 0b10_001_011, 0xFE] =
      some (.VEX_Vpcmpeqb_xmm_xmm_xmmm128
        { VexPrefix.none with three := true, W := true, X := true, B := true, vvvv := 0b1000 } 0
        (.mem 1 4 (some 0b10_001_011) (.d8 0xFE))) := by decide +kernel

/-- R75: P0 is ~R ~X ~B ~R' 0 0 mm, P1 is W ~vvvv 1 pp, P2 is z L'L b ~V' aaa. -/
theorem test_decode_evex_word :
    decodeInstr .Architectural .b64 [0x62, 0b0_1_0_1_00_01, 0b1_1100_1_01, 0b0_01_1_0_010, 0x72, 0b00_000_111, 0x09] =
      some (.EVEX_Vprorq_ymm_k1z_ymmm256b64_imm8
        { EvexPrefix.none with W := true, R := true, B := true, Vp := true, vvvv := 0b0011, b := true, aaa := 0b010 }
        (.mem 0 7 none .none) 9) ∧
    decodeInstr .Architectural .b64 [0x62, 0b1_0_1_0_00_11, 0b0_1111_1_01, 0b1_10_0_1_111, 0x71, 0b11_010_100, 0x09] =
      some (.EVEX_Vpshldd_zmm_k1z_zmm_zmmm512b32_imm8
        { EvexPrefix.none with X := true, Rp := true, z := true, aaa := 0b111 } 0b010 (.reg 0b100) 9) := by
  decide +kernel

/-- The encoder writes the bytes of the spec's examples (R300, R346, R380, R440). -/
theorem test_encode_words :
    encode (.Pshufw_mm_mmm64_imm8 LegacyPrefix.none 2 (.mem 1 4 (some 0x24) (.d8 8)) 0xA5) =
      [0x0F, 0x70, 0x54, 0x24, 0x08, 0xA5] ∧
    encode (.VEX_Vpsrlw_xmm_xmm_imm8 { VexPrefix.none with vvvv := 2 } 3 7) = [0xC5, 0xE9, 0x71, 0xD3, 0x07] ∧
    encode (.EVEX_Vpshufd_xmm_k1z_xmmm128b32_imm8 { EvexPrefix.none with z := true, aaa := 3 } 2
      (.mem 1 0 none (.d8 1)) 0xA5) = [0x62, 0xF1, 0x7D, 0x8B, 0x70, 0x50, 0x01, 0xA5] := by decide +kernel

/-- R82: the table's word of a row, where the next transaction reads, runs the row's instruction (assumption 5). -/
theorem test_table_word_runs :
    (decodeTableWord 24 0x11C00).map Instr.code = some .Pshufw_mm_mmm64_imm8 ∧
    ((after (State.reset.withFetchWord 24 0x95C00)).result =
      .Ok (record .EVEX_Vpshufd_xmm_k1z_xmmm128b32_imm8 7 none [regOp (.xmm 0), regOp (.xmm 0), immOp 0])) ∧
    decodeTableWord 24 0x10000 = none := by decide +kernel

/-- R103, R521: a block built with DocLiteral order is still one after reset, and 48 66 is then an unknown opcode. -/
theorem test_reset_keeps_rex_order :
    ((after ((State.resetOf .DocLiteral).supply [0x48, 0x66, 0x0F, 0x74, 0xCD] 0 .b64)).result = .Err .UnknownOpcode) ∧
    ((after ((State.resetOf .DocLiteral).supply [0x48, 0x66, 0x0F, 0x74, 0xCD] 0 .b64).assertReset).result =
      .Err .UnknownOpcode) ∧
    (after ((State.resetOf .Architectural).supply [0x48, 0x66, 0x0F, 0x74, 0xCD] 0 .b64)).result =
      .Ok (record .Pcmpeqb_xmm_xmmm128 5 none [regOp (.xmm 1), regOp (.xmm 5)]) := by decide +kernel

/-! ### Errors -/

/-- R504: the table of consequences of the check order, with the last line's 14 prefix bytes. -/
theorem test_error_order :
    ([([0x4F, 0xC5, 0xF8, 0x77], .InvalidVexEvexEncoding), ([0xF0, 0xC5], .InvalidVexEvexEncoding),
      ([0xC4, 0xE4, 0x79], .InvalidVexEvexEncoding), ([0x0F, 0x38], .UnexpectedEof),
      ([0xF0, 0x0F, 0x71, 0x00], .UnknownOpcode), ([0x66, 0x0F, 0x71, 0x10], .InvalidModRM),
      ([0x62, 0xF1, 0x3D, 0x0F, 0x70, 0x50], .UnexpectedEof), ([0x62, 0xF1, 0x7D, 0x1B, 0x70, 0xC0], .UnexpectedEof),
      (List.replicate 14 0x26 ++ [0x0F, 0x77], .InstructionTooLong)] : List (List Byte × DecodeError)).all
      (fun e => decide (run .b64 e.1 = .Err e.2)) = true := by decide +kernel

/-- R501: the causes of `InvalidVexEvexEncoding` after the payload, each on a whole instruction: vvvv not 1111 (R189),
L'L = 11 (R183), b = 1 with a register (R184), with a row without broadcast (R187), a mask on a row without masking (R192),
z = 1 with a K destination (R193), z = 1 without a mask (R191), R set with a K destination (R193). -/
theorem test_field_errors :
    ([[0xC5, 0xF1, 0x70, 0xCD, 0xA5], [0x62, 0xF1, 0x75, 0x08, 0x70, 0xCD, 0xA5], [0x62, 0xF1, 0x7D, 0x68, 0x70, 0xCD, 0xA5],
      [0x62, 0xF1, 0x7D, 0x18, 0x70, 0xCD, 0xA5], [0x62, 0xF1, 0x7E, 0x18, 0x70, 0x00, 0xA5],
      [0x62, 0xF1, 0x7D, 0x09, 0x73, 0xDB, 0xA5], [0x62, 0xF1, 0x7D, 0x89, 0x74, 0xCD],
      [0x62, 0xF1, 0x7D, 0x88, 0x70, 0xCD, 0xA5], [0x62, 0x71, 0x7D, 0x08, 0x74, 0xCD]] : List (List Byte)).all
      (fun bs => decide (run .b64 bs = .Err .InvalidVexEvexEncoding)) = true := by decide +kernel

/-- R135, R136: a digit and a W value without a family; R132: a key without a row. -/
theorem test_unknown_opcodes :
    ([[0x0F, 0x71, 0xC3, 0x07], [0x62, 0xF1, 0xFD, 0x08, 0x72, 0xD3, 0x07], [0x0F, 0x78, 0xC0], [0xF3, 0x0F, 0x77],
      [0x90]] : List (List Byte)).all (fun bs => decide (run .b64 bs = .Err .UnknownOpcode)) = true := by decide +kernel


/-! ### Witnesses: the hypotheses of each statement are met, each clause at a boundary value -/

/-- A buffer of two bytes, decoded from its end (no byte is left) and from past its end. -/
theorem witness_ResetAndStartInitialiseRegisters :
    (st .b64 [0x0F, 0x77]).buffer.wf = true ∧ ({ st .b64 [0x0F, 0x77] with startOffset := 2 } : State).begin.avail = 0 ∧
    2 ≤ (st .b64 [0x0F, 0x77]).buffer.length ∧ ¬ 3 ≤ (st .b64 [0x0F, 0x77]).buffer.length := by decide +kernel

/-- A window that decodes, and one that does not. -/
theorem witness_StepRunsDecodedInstruction :
    (∃ i r, decode (st .b64 [0x0F, 0x77]).rexOrder (st .b64 [0x0F, 0x77]).bitness (st .b64 [0x0F, 0x77]).window = .ok (i, r)) ∧
    (∃ e, decode (st .b64 [0x0F]).rexOrder (st .b64 [0x0F]).bitness (st .b64 [0x0F]).window = .error e) :=
  ⟨⟨_, _, rfl⟩, ⟨_, rfl⟩⟩

/-- Two states that differ in their registers and agree in their inputs. -/
theorem witness_StepDependsOnInputsOnly :
    ∃ s t : State, s ≠ t ∧ s.buffer = t.buffer ∧ s.startOffset = t.startOffset ∧ s.bitness = t.bitness ∧
      s.rexOrder = t.rexOrder :=
  ⟨st .b64 [0x0F, 0x77], after (st .b64 [0x0F, 0x77]), by decide +kernel⟩

/-- Sixteen bytes and seventeen, equal in the first fifteen. -/
theorem witness_FirstFifteenBytesDecideResult :
    ∃ s t s' t' : State, s.window ≠ t.window ∧ s.bitness = t.bitness ∧ s.rexOrder = t.rexOrder ∧
      s.window.take 15 = t.window.take 15 ∧ step s = .next s' ∧ step t = .next t' :=
  ⟨st .b64 (List.replicate 15 0x26 ++ [0x0F]), st .b64 (List.replicate 15 0x26 ++ [0x90, 0x0F]), _, _, by decide +kernel,
    rfl, rfl, by decide +kernel, step_eq _ (by decide +kernel), step_eq _ (by decide +kernel)⟩

/-- A successful decode, with a byte appended, and with its bytes alone. -/
theorem witness_AppendedBytesKeepResult :
    (∃ (s t s' : State) (suffix : List Byte), suffix ≠ [] ∧ s.bitness = t.bitness ∧ s.rexOrder = t.rexOrder ∧
      t.window = s.window ++ suffix ∧ step s = .next s' ∧ s'.result ≠ .Err .UnexpectedEof) ∧
    (∃ (s t s' : State) (insn : Instruction), s.bitness = t.bitness ∧ s.rexOrder = t.rexOrder ∧ s.window ≠ t.window ∧
      step s = .next s' ∧ s'.result = .Ok insn ∧ t.window.take insn.byteLength.val = s.window.take insn.byteLength.val) :=
  ⟨⟨st .b64 [0x0F, 0x77], st .b64 [0x0F, 0x77, 0x90], _, [0x90], by decide, rfl, rfl, by decide +kernel,
      step_eq _ (by decide +kernel), by decide +kernel⟩,
    ⟨st .b64 [0x0F, 0x77, 0x90], st .b64 [0x0F, 0x77], _, record .Emms 2 none [], rfl, rfl, by decide +kernel,
      step_eq _ (by decide +kernel), by decide +kernel, by decide +kernel⟩⟩

/-- The invariant holds at a state with a listed buffer, and a step goes on from it. -/
theorem witness_StepKeepsInvariant : ∃ s t : State, s.Inv ∧ step s = .next t ∧ s.buffer ≠ [] :=
  ⟨st .b64 [0x0F, 0x77], _, ⟨by decide +kernel, by decide +kernel, by decide +kernel, by decide +kernel⟩,
    step_eq _ (by decide +kernel), by decide +kernel⟩

/-- A canonical buffer that is not reset's, in a DocLiteral block. -/
theorem witness_ResetSatisfiesInvariant :
    ({ st .b32 [0x0F, 0x77] with rexOrder := .DocLiteral, startOffset := 1 } : State).buffer.wf = true ∧
    ({ st .b32 [0x0F, 0x77] with rexOrder := .DocLiteral, startOffset := 1 } : State).assertReset.avail = 1 := by decide +kernel

/-- A record with a memory operand of 16-bit addressing and no opmask. -/
theorem witness_OkRecordsAreSound :
    ∃ (s t : State) (r : Instruction), step s = .next t ∧ t.result = .Ok r ∧ r.opMask = none ∧
      ∃ m, t.regs.md = some m ∧ m.as = .a16 :=
  ⟨st .b16 [0x0F, 0x70, 0x08, 0xA5], _, _, step_eq _ (by decide +kernel), rfl, rfl, _, rfl, rfl⟩

/-- The shortest instruction, one of `MAX_LEN` bytes, and the window of the second clause. -/
theorem witness_ByteLengthIsBytesConsumed :
    (∃ (s t : State) (r : Instruction), step s = .next t ∧ t.result = .Ok r ∧ r.byteLength = 2) ∧
    (∃ (s t : State) (r : Instruction), step s = .next t ∧ t.result = .Ok r ∧ r.byteLength = 15) ∧
    (st .b64 [0x0F, 0x77, 0x90]).window = 0x0F :: 0x77 :: [0x90] :=
  ⟨⟨st .b64 [0x0F, 0x77], _, _, step_eq _ (by decide +kernel), rfl, rfl⟩,
    ⟨st .b64 (List.replicate 13 0x26 ++ [0x0F, 0x77]), _, _, step_eq _ (by decide +kernel), rfl, rfl⟩, by decide +kernel⟩

/-- 32-bit bitness, with a register, a base and an index. -/
theorem witness_NoExtendedRegistersOutside64 :
    ∃ (s t : State) (r : Instruction), s.bitness ≠ .b64 ∧ step s = .next t ∧ t.result = .Ok r ∧
      (∃ o ∈ r.ops, ∃ x, o.register = some x) ∧ (∃ x, r.memoryBase = some x) ∧ (∃ x, r.memoryIndex = some x) :=
  ⟨st .b32 [0x0F, 0x70, 0x54, 0xFF, 0x08, 0xA5], _, _, by decide, step_eq _ (by decide +kernel), rfl,
    ⟨_, List.Mem.head _, _, rfl⟩, ⟨_, rfl⟩, ⟨_, rfl⟩⟩

/-- The last byte of the window, and the first index past it. -/
theorem witness_WindowIsBufferFromStartOffset :
    ({ st .b64 [0x90, 0x0F, 0x77] with startOffset := 1 } : State).buffer.wf = true ∧
    1 < ({ st .b64 [0x90, 0x0F, 0x77] with startOffset := 1 } : State).begin.avail ∧
    ({ st .b64 [0x90, 0x0F, 0x77] with startOffset := 1 } : State).begin.avail ≤ 2 := by decide +kernel

/-- The cursor at 15; at 14 with 14 bytes; at 14 with 15 bytes. -/
theorem witness_ReadByteFollowsCursor :
    15 ≤ ({ Regs.initial with pos := 15 } : Regs).pos.val ∧
    (({ Regs.initial with pos := 14 } : Regs).pos.val < 15 ∧ (List.replicate 14 (0x26 : Byte)).length ≤ 14) ∧
    (({ Regs.initial with pos := 14 } : Regs).pos.val < 15 ∧ 14 < (List.replicate 15 (0x26 : Byte)).length) := by decide

/-- Fourteen prefix bytes and another byte; fifteen. -/
theorem witness_LastOfEachPrefixCategoryCounts :
    ((∀ x ∈ List.replicate 14 (0xF2 : Byte), x ∈ prefixBytes) ∧ (List.replicate 14 (0xF2 : Byte)).length ≤ 14 ∧
      (0x0F : Byte) ∉ prefixBytes ∧ ¬ isRex4 0x0F) ∧
    ((∀ x ∈ List.replicate 15 (0xF2 : Byte), x ∈ prefixBytes) ∧ (List.replicate 15 (0xF2 : Byte)).length = 15) := by
  unfold isRex4; decide

/-- Each clause at its longest: 13 prefix bytes before REX; prefix bytes on both sides; 12 before two REX bytes; a prefix
byte and a REX byte after REX. -/
theorem witness_RexByteFollowsParameter :
    ((∀ x ∈ List.replicate 13 (0x66 : Byte), x ∈ prefixBytes) ∧ isRex4 0x40 ∧ isRex4 0x4F ∧ (0x0F : Byte) ∉ prefixBytes ∧
      ¬ isRex4 0x0F ∧ (List.replicate 13 (0x66 : Byte)).length ≤ 13) ∧
    ((∀ x ∈ List.replicate 12 (0x66 : Byte), x ∈ prefixBytes) ∧ (∀ x ∈ [(0xF3 : Byte)], x ∈ prefixBytes) ∧
      [(0xF3 : Byte)] ≠ [] ∧ (List.replicate 12 (0x66 : Byte)).length + [(0xF3 : Byte)].length ≤ 13) ∧
    (List.replicate 12 (0x66 : Byte)).length ≤ 12 ∧ ((0x2E : Byte) ∈ prefixBytes ∨ isRex4 0x2E) := by
  unfold isRex4; decide

/-- A legacy scan that ends with a REX byte. -/
theorem witness_RexFieldsOfLegacyScan :
    ∃ r x, prefixScan .Architectural .b64 [0x66, 0x4F, 0x0F] Regs.initial = .ok r ∧ r.ps.space = .Legacy ∧
      r.ps.rex = some x :=
  ⟨_, _, rfl, rfl, rfl⟩

/-- A legacy scan with 66, F2 and F3, and a VEX scan. -/
theorem witness_MandatoryPrefixOfScan :
    (∃ r, prefixScan .Architectural .b64 [0x66, 0xF2, 0xF3, 0x0F] Regs.initial = .ok r ∧ r.ps.space = .Legacy) ∧
    (∃ r, prefixScan .Architectural .b64 [0xC5, 0xFB] Regs.initial = .ok r ∧ r.ps.space ≠ .Legacy) :=
  ⟨⟨_, rfl, rfl⟩, ⟨_, rfl, by decide⟩⟩

/-- The payload in the last bytes that an instruction may have. -/
theorem witness_PayloadBitsFillPrefixState :
    ((14 : Nat) ≤ 14 ∧ (List.replicate 15 (0xF9 : Byte))[14]? = some 0xF9) ∧
    ((13 : Nat) ≤ 13 ∧ (List.replicate 15 (0xE3 : Byte))[13]? = some 0xE3 ∧ (List.replicate 15 (0xE3 : Byte))[14]? = some 0xE3 ∧
      mapOf ((0xE3 : Byte).toNat % 32) = some .m0F3A) ∧
    ((12 : Nat) ≤ 12 ∧ ([0xF1, 0x7D, 0x08] : List Byte)[0]? = some 0xF1 ∧ (0xF1 : Byte).toNat / 4 % 4 = 0 ∧
      (0x7D : Byte).toNat / 4 % 2 = 1 ∧ mapOf ((0xF1 : Byte).toNat % 4) = some .m0F) := by decide

theorem witness_RexBytesAreUnknownOutside64 :
    Bitness.b32 ≠ .b64 ∧ (∀ x ∈ List.replicate 14 (0x66 : Byte), x ∈ prefixBytes) ∧
    (List.replicate 14 (0x66 : Byte)).length ≤ 14 ∧ isRex4 0x40 ∧ isRex4 0x4F := by unfold isRex4; decide

/-- Each clause at its longest. -/
theorem witness_OneByteOpcodesAreUnknown :
    ((List.replicate 14 (0x66 : Byte)).length ≤ 14 ∧ (∀ x ∈ List.replicate 14 (0x66 : Byte), x ∈ prefixBytes) ∧
      (0x90 : Byte) ∉ prefixBytes ∧ (0x90 : Byte) ∉ escapes ∧ (0x90 : Byte) ≠ 0x0F ∧ ¬ isRex4 0x90) ∧
    ((List.replicate 13 (0x66 : Byte)).length ≤ 13 ∧ Bitness.b16 ≠ .b64 ∧ (0xC4 : Byte) ∈ escapes ∧ ¬ topSet 0xBF) ∧
    (List.replicate 14 (0x66 : Byte)).length = 14 := by unfold isRex4 topSet; decide

/-- Each clause at its longest. -/
theorem witness_BarredPrefixBeforeEscapeRaises :
    ((∀ x ∈ List.replicate 14 (0xF0 : Byte), x ∈ prefixBytes) ∧ (0x62 : Byte) ∈ escapes ∧
      (List.replicate 14 (0xF0 : Byte)).length ≤ 14 ∧ (∃ x ∈ List.replicate 14 (0xF0 : Byte), x ∈ barredBytes)) ∧
    ((List.replicate 13 (0xF0 : Byte)).length ≤ 13 ∧ Bitness.b16 ≠ .b64 ∧ topSet 0xC0 ∧
      (∃ x ∈ List.replicate 13 (0xF0 : Byte), x ∈ barredBytes)) ∧
    isRex4 0x40 := by unfold isRex4 topSet; decide

/-- m-mmmm = 4, and mm = 00, each after the most prefix bytes. -/
theorem witness_ReservedPayloadsRaise :
    ((∀ x ∈ List.replicate 12 (0x67 : Byte), x ∈ freeBytes) ∧ (List.replicate 12 (0x67 : Byte)).length ≤ 12 ∧ topSet 0xE4 ∧
      mapOf ((0xE4 : Byte).toNat % 32) = none) ∧
    ((List.replicate 11 (0x67 : Byte)).length ≤ 11 ∧ topSet 0xF0 ∧ (0xF0 : Byte).toNat % 4 = 0) := by
  unfold topSet; decide

/-- A row of the table, and a family with two lengths. -/
theorem witness_FirstLevelTable :
    ∃ e ∈ firstLevel, ∃ f ∈ e.families, f.2.2 ≠ [] :=
  ⟨_, List.Mem.head _, _, List.Mem.head _, by decide⟩

theorem witness_SelectionLeavesOneFamily :
    ∃ fam, select (lookup .EVEX .m0F .P66 0x72) (some 6) false = some fam ∧ fam.length = 3 :=
  ⟨_, rfl, rfl⟩

/-- The registers after the prefix loop of F0 0F 71, and the bytes of the second clause at their longest. -/
theorem witness_LockOnLegacyRowRaises :
    (∃ r1, readOpcode [0xF0, 0x0F, 0x71]
        { Regs.initial with pos := 2, b0 := some 0x0F, ps := { PrefixState.initial with lock := true } } = .ok r1 ∧
      r1.ps.space = .Legacy ∧ r1.ps.lock = true ∧ entryOf r1 ≠ []) ∧
    ((∀ x ∈ List.replicate 13 (0xF0 : Byte), x ∈ prefixBytes) ∧ (0xF0 : Byte) ∈ List.replicate 13 (0xF0 : Byte) ∧
      (List.replicate 13 (0xF0 : Byte)).length ≤ 13 ∧ (0x71 : Byte) ≠ 0x38 ∧ (0x71 : Byte) ≠ 0x3A) :=
  ⟨⟨_, rfl, rfl, rfl, by decide +kernel⟩, by decide⟩

/-- 66 0F 71 /2 with mod = 10, and VEX.66.0F 73 /7 with mod = 00. -/
theorem witness_RegisterOnlyRowRefusesMemory :
    ((row .Psrlw_xmm_imm8).shape = .RMreg_IB ∧
      (Instr.Psrlw_xmm_imm8 { LegacyPrefix.none with opsize := true } 0 0).prefixWf .b16 = true ∧
      (0x90 : Byte).toNat / 64 ≠ 3 ∧ (row .Psrlw_xmm_imm8).digit = some (BitVec.ofNat 3 ((0x90 : Byte).toNat / 8))) ∧
    ((row .VEX_Vpslldq_ymm_ymm_imm8).shape = .V_RMreg_IB ∧
      (Instr.VEX_Vpslldq_ymm_ymm_imm8 VexPrefix.none 0 0).prefixWf .b64 = true ∧
      (encodeHead (row .VEX_Vpslldq_ymm_ymm_imm8) (Instr.VEX_Vpslldq_ymm_ymm_imm8 VexPrefix.none 0 0).bundle).length ≤ 14 ∧
      (0x3F : Byte).toNat / 64 ≠ 3 ∧
      (row .VEX_Vpslldq_ymm_ymm_imm8).digit = some (BitVec.ofNat 3 ((0x3F : Byte).toNat / 8))) := by decide +kernel

theorem witness_SixteenBitAddressing : (2 : BitVec 2) ≠ 3 := by decide

/-- rm = 5 with mod = 01 (the second clause), and the conditions of the SIB clause on both sides. -/
theorem witness_WideAddressing :
    (AddrSize.a64 ≠ .a16 ∧ (1 : BitVec 2) ≠ 3 ∧ (5 : BitVec 3) ≠ 4 ∧ ¬ ((5 : BitVec 3) = 5 ∧ (1 : BitVec 2) = 0)) ∧
    ((0x25 : Byte).toNat % 8 = 5 ∧ (0x25 : Byte).toNat / 8 % 8 = 4) ∧
    ((0xFF : Byte).toNat % 8 ≠ 5 ∧ (0xFF : Byte).toNat / 8 % 8 ≠ 4) := by decide

/-- Four bytes, the last the fifteenth of the instruction. -/
theorem witness_DisplacementIsSignedLittleEndian :
    ({ Regs.initial with pos := 11 } : Regs).pos.val + 4 ≤ 15 ∧ 11 + 4 ≤ (List.replicate 15 (0xFF : Byte)).length ∧
    ({ Regs.initial with pos := 11 } : Regs).dispRaw = 0 := by decide

theorem witness_StoredDisplacement :
    ({ ps := PrefixState.initial, reg := 0, rm := 0, md := some { as := .a16, base := none, index := none, scale := 1 },
       dispRaw := -1, dispSize := 1, imm := none, vf := VectorFields.initial, pos := 4 } : Pieces).md =
      some { as := .a16, base := none, index := none, scale := 1 } := rfl

/-- A memory form with b = 1, and a register form with b = 1. -/
theorem witness_EvexLengthAndRounding :
    ({ PrefixState.initial with space := .EVEX, b := true } : PrefixState).space = .EVEX ∧
    ({ PrefixState.initial with space := .EVEX, b := true } : PrefixState).b = true ∧
    ¬ (false = true ∧ ({ PrefixState.initial with space := .EVEX, b := true } : PrefixState).b = true) := by decide

/-- EVEX memory with a 1-byte displacement, with b = 1 and b = 0; with a 4-byte one; a VEX form. -/
theorem witness_DisplacementFactor :
    (∃ vf, vectorFieldDecode (tableForm .EVEX_Vpshufd_xmm_k1z_xmmm128b32_imm8)
      { PrefixState.initial with space := .EVEX, b := true } false true = .ok vf ∧ vf.bcst = true) ∧
    (∃ vf, vectorFieldDecode (tableForm .EVEX_Vpshufd_xmm_k1z_xmmm128b32_imm8)
      { PrefixState.initial with space := .EVEX } false true = .ok vf ∧ vf.bcst = false) ∧
    (∃ vf, vectorFieldDecode (tableForm .EVEX_Vpshufd_xmm_k1z_xmmm128b32_imm8)
      { PrefixState.initial with space := .EVEX } false false = .ok vf) ∧
    (∃ vf, vectorFieldDecode (tableForm .VEX_Vpshufd_xmm_xmmm128_imm8)
      { PrefixState.initial with space := .VEX2 } false true = .ok vf) :=
  ⟨⟨_, rfl, rfl⟩, ⟨_, rfl, rfl⟩, ⟨_, rfl⟩, ⟨_, rfl⟩⟩

theorem witness_VectorFieldErrorsAreTheListed :
    (row (vshuf VexPrefix.none).code).space = .VEX ∧ (row (eshuf EvexPrefix.none (.reg 0)).code).space = .EVEX := by decide

theorem witness_ExecCompletesExactlyWhenLegal :
    (vshuf VexPrefix.none).legal .b64 = true ∧ (vshuf { VexPrefix.none with vvvv := 1 }).legal .b64 = false := by
  decide +kernel

theorem witness_ExecChangesOnlyOutcome : ∃ t, exec (vshuf VexPrefix.none) State.reset = .next t :=
  ⟨_, eq_next_goesTo State.reset _ (by decide +kernel)⟩

/-- LOCK absent, every other prefix present. -/
def allButLock : LegacyPrefix :=
  { seg := some .GS, opsize := true, adsize := true, lock := false, rep := some .F2, rex := some 0xF }

theorem witness_LegacyShufflesComplete : ∃ e, e ∈ legacyShuffles ∧ allButLock.lock = false := ⟨_, List.Mem.head _, rfl⟩
theorem witness_LegacyMmxShiftsComplete : ∃ e, e ∈ legacyMmxShifts ∧ allButLock.lock = false := ⟨_, List.Mem.head _, rfl⟩
theorem witness_LegacyXmmShiftsComplete : ∃ e, e ∈ legacyXmmShifts ∧ allButLock.lock = false := ⟨_, List.Mem.head _, rfl⟩
theorem witness_LegacyComparesComplete : ∃ e, e ∈ legacyCompares ∧ allButLock.lock = false := ⟨_, List.Mem.head _, rfl⟩
theorem witness_EmmsCompletes : allButLock.lock = false := rfl

/-- Every extension field set, vvvv unused. -/
def vexExtended : VexPrefix :=
  { seg := some .FS, adsize := true, three := true, W := true, R := true, X := true, B := true, vvvv := 0 }

theorem witness_VexShufflesComplete : ∃ e, e ∈ vexShuffles ∧ vexExtended.vvvv = 0 := ⟨_, List.Mem.head _, rfl⟩
theorem witness_VexShiftsComplete : ∃ e, e ∈ vexShifts := ⟨_, List.Mem.head _⟩
theorem witness_VexComparesComplete : ∃ e, e ∈ vexCompares := ⟨_, List.Mem.head _⟩
theorem witness_VexZerosComplete : ∃ e, e ∈ vexZeros ∧ vexExtended.vvvv = 0 := ⟨_, List.Mem.head _, rfl⟩

/-- Zeroing with an opmask. -/
def evexMasked : EvexPrefix := { EvexPrefix.none with z := true, aaa := 7, R := true, X := true, B := true, Rp := true }

/-- b = 1, with memory of a row that has a broadcast form. -/
def evexBroadcast : EvexPrefix := { evexMasked with b := true }

theorem masked_zeroingOk : zeroingOk evexMasked := fun _ => by decide
theorem broadcast_zeroingOk : zeroingOk evexBroadcast := fun _ => by decide

theorem witness_EvexShufflesComplete :
    (∃ e, e ∈ evexShuffles ∧ evexBroadcast.vvvv = 0 ∧ evexBroadcast.Vp = false ∧ zeroingOk evexBroadcast ∧
      broadcastOk e.2.2.2.2.2 evexBroadcast (.mem 1 0 none (.d8 1))) ∧
    (∃ e, e ∈ evexShuffles ∧ zeroingOk evexMasked ∧ broadcastOk e.2.2.2.2.2 evexMasked (.reg 7)) :=
  ⟨⟨_, List.Mem.head _, rfl, rfl, broadcast_zeroingOk, fun _ => by decide⟩,
    ⟨_, List.Mem.head _, masked_zeroingOk, fun h => by cases h⟩⟩

theorem witness_EvexWordShiftsComplete :
    ∃ e, e ∈ evexWordShifts ∧ zeroingOk evexMasked ∧ broadcastOk e.2.2.2.2.2 evexMasked (.mem 1 0 none (.d8 1)) :=
  ⟨_, List.Mem.head _, masked_zeroingOk, fun h => by cases h⟩

theorem witness_EvexRotatesComplete :
    ∃ e, e ∈ evexRotates ∧ zeroingOk evexBroadcast ∧ broadcastOk e.2.2.2.2.2 evexBroadcast (.mem 1 0 none (.d8 1)) :=
  ⟨_, List.Mem.head _, broadcast_zeroingOk, fun _ => by decide⟩

theorem witness_EvexElementShiftsComplete :
    ∃ e, e ∈ evexElementShifts ∧ zeroingOk evexBroadcast ∧ broadcastOk e.2.2.2.2.2 evexBroadcast (.mem 1 0 none (.d8 1)) :=
  ⟨_, List.Mem.head _, broadcast_zeroingOk, fun _ => by decide⟩

theorem witness_EvexByteShiftsComplete :
    ∃ e, e ∈ evexByteShifts ∧ EvexPrefix.none.aaa = 0 ∧ EvexPrefix.none.z = false ∧
      broadcastOk e.2.2.2.2.2 EvexPrefix.none (.reg 7) :=
  ⟨_, List.Mem.head _, rfl, rfl, fun h => by cases h⟩

/-- In 64-bit bitness R and R' are 0; in 32-bit bitness they may be set. -/
theorem witness_EvexComparesComplete :
    ∃ e, e ∈ evexCompares ∧ EvexPrefix.none.z = false ∧ in64 .b64 EvexPrefix.none.R = false ∧
      in64 .b64 EvexPrefix.none.Rp = false ∧ in64 .b32 evexMasked.R = false ∧ in64 .b32 evexMasked.Rp = false ∧
      broadcastOk e.2.2.2.2.2 EvexPrefix.none (.reg 7) :=
  ⟨_, List.Mem.head _, rfl, rfl, rfl, rfl, rfl, fun h => by cases h⟩

theorem witness_EvexConcatShiftsComplete :
    ∃ e, e ∈ evexConcatShifts ∧ zeroingOk evexMasked ∧ broadcastOk e.2.2.2.2.2 evexMasked (.reg 7) :=
  ⟨_, List.Mem.head _, masked_zeroingOk, fun h => by cases h⟩

theorem witness_LegacyEncodingRoundTrip :
    (row (lshuf LegacyPrefix.none (.mem 1 4 (some 0x24) (.d8 8))).code).space = .Legacy ∧
    (lshuf { LegacyPrefix.none with seg := some .GS, adsize := true, rex := some 0xF } (.mem 1 4 (some 0x24) (.d8 8))).wf .b64
      = true := by decide +kernel

theorem witness_VexEncodingRoundTrip :
    (row (vshuf vexExtended).code).space = .VEX ∧ (vshuf vexExtended).wf .b64 = true := by decide +kernel

theorem witness_EvexEncodingRoundTrip :
    (row (eshuf evexBroadcast (.mem 1 0 none (.d8 1))).code).space = .EVEX ∧
    (eshuf evexBroadcast (.mem 1 0 none (.d8 1))).wf .b64 = true := by decide +kernel

theorem witness_EncodedInstructionReportsItsLength :
    (eshuf evexBroadcast (.mem 1 0 none (.d8 1))).wf .b64 = true ∧
    (eshuf evexBroadcast (.mem 1 0 none (.d8 1))).legal .b64 = true ∧
    (st .b64 (encode (eshuf evexBroadcast (.mem 1 0 none (.d8 1))) ++ [0x90])).window =
      encode (eshuf evexBroadcast (.mem 1 0 none (.d8 1))) ++ [0x90] := by decide +kernel

end Sys2Proof.Tests
end

section
/-! The ranges of the registers (spec/10_state.md R24 to R28) through the decoder: every operation keeps them, whether it
answers or raises. -/

namespace Sys2Proof.Machine

open Sys2Proof

/-- R500: the registers that a piece of decode work leaves, whether it answers or raises. -/
def regsAfter (d : Dec Regs) : Regs :=
  match d with
  | .ok r => r
  | .error st => st.regs

@[simp] theorem regsAfter_ok (r : Regs) : regsAfter (.ok r) = r := rfl
@[simp] theorem regsAfter_error (st : Stop) : regsAfter (.error st) = st.regs := rfl
@[simp] theorem regsAfter_raiseAt (e : DecodeError) (r : Regs) : regsAfter (raiseAt e r) = r := rfl

/-- R24 to R28: what the ranges say of each register; the cursor's range is its type's (R8). -/
theorem Regs.inRange_iff (r : Regs) :
    r.inRange = true ↔
      (∀ b, r.ps.rex = some b → b.extractLsb' 4 4 = (4 : BitVec 4)) ∧ r.dispSize ∈ [0, 1, 2, 4] ∧
        ∀ m, r.md = some m → m.as = .a16 → m.scale = 1 := by
  have hpos : r.pos.val ≤ Config.maxLen := Nat.le_of_lt_succ r.pos.isLt
  have hrex : ((r.ps.rex.map fun b => decide (b.extractLsb' 4 4 = (4 : BitVec 4))).getD true) = true ↔
      ∀ b, r.ps.rex = some b → b.extractLsb' 4 4 = (4 : BitVec 4) := by
    cases r.ps.rex <;> simp
  have hmd : ((r.md.map fun m => decide (m.as ≠ .a16) || decide (m.scale = 1)).getD true) = true ↔
      ∀ m, r.md = some m → m.as = .a16 → m.scale = 1 := by
    cases r.md <;> simp [or_iff_not_imp_left]
  unfold Regs.inRange
  simp only [Bool.and_eq_true, decide_eq_true_eq, hpos, hrex, hmd, true_and, and_assoc]

/-- Registers that agree in the ranged fields are in range together. -/
theorem Regs.inRange_of_eq {r r' : Regs} (h : r.inRange = true) (hrex : r'.ps.rex = r.ps.rex)
    (hsize : r'.dispSize = r.dispSize) (hmd : r'.md = r.md) : r'.inRange = true := by
  rw [Regs.inRange_iff] at h ⊢
  rwa [hrex, hsize, hmd]

/-- R48: the initial registers are in range. -/
theorem Regs.initial_inRange : Regs.initial.inRange = true := rfl

/-! ### The cursor -/

/-- R54: a peek that raises leaves the registers as they are. -/
theorem peekByte_error_regs {w : List Byte} {r : Regs} {st : Stop} (h : peekByte w r = .error st) : st.regs = r := by
  obtain ⟨-, rfl⟩ | ⟨-, -, rfl⟩ := (peekByte_eq_error w r st).mp h <;> rfl

/-- R53: work that starts with a byte read keeps the ranges if what follows the read does: the read moves the cursor alone,
and raises with the registers as they are. -/
theorem read_then_inRange {w : List Byte} {r : Regs} {f : Byte → Regs → Dec Regs} (h : r.inRange = true)
    (hf : ∀ b r1, r1.inRange = true → (regsAfter (f b r1)).inRange = true) :
    (regsAfter (match readByte w r with
      | .error st => .error st
      | .ok (b, r1) => f b r1)).inRange = true := by
  split
  · rename_i st hr
    rw [regsAfter_error, peekByte_error_regs ((readByte_eq_error w r st).mp hr)]
    exact h
  · rename_i b r1 hr
    obtain ⟨-, -, rfl⟩ := (readByte_eq_ok w r r1 b).mp hr
    exact hf b _ (Regs.inRange_of_eq h rfl rfl rfl)

/-- Work in two parts keeps the ranges if both parts do. -/
theorem work_then_inRange {d : Dec Regs} {f : Regs → Dec Regs} (h : (regsAfter d).inRange = true)
    (hf : ∀ r1, r1.inRange = true → (regsAfter (f r1)).inRange = true) :
    (regsAfter (match d with
      | .error st => .error st
      | .ok r1 => f r1)).inRange = true := by
  cases d with
  | error st => exact h
  | ok r1 => exact hf r1 h

/-! ### PrefixScan (R100 to R124) -/

/-- R103, R123: a recorded byte drops a pending REX byte. -/
theorem recordPrefix_rex {b : Byte} {ps ps' : PrefixState} (h : recordPrefix b ps = some ps') : ps'.rex = none := by
  rw [recordPrefix_eq_some b ps ps' h]

/-- Without a pending REX byte, `ps` has no range to meet. -/
theorem Regs.inRange_of_rex_none {r : Regs} {ps : PrefixState} (h : r.inRange = true) (hps : ps.rex = none) :
    ({ r with ps := ps } : Regs).inRange = true := by
  rw [Regs.inRange_iff] at h ⊢
  exact ⟨fun b hb => by simp [hps] at hb, h.2⟩

/-- R103: what the loop takes as a REX byte is 40 to 4F. -/
theorem Regs.inRange_of_isRex {r : Regs} {bt : Bitness} {b : Byte} (h : r.inRange = true) (hb : isRex bt b = true) :
    ({ r with ps := { r.ps with rex := some b } } : Regs).inRange = true := by
  rw [Regs.inRange_iff] at h ⊢
  unfold isRex at hb
  simp only [Bool.and_eq_true, decide_eq_true_eq] at hb
  exact ⟨fun c hc => by cases hc; exact hb.2, h.2⟩

/-- R101 to R103: the loop holds no REX byte but 40 to 4F. -/
theorem prefixLoop_inRange (order : RexOrder) (bt : Bitness) (w : List Byte) :
    ∀ (n : Nat) (r : Regs), r.inRange = true → (regsAfter (prefixLoop order bt w n r)).inRange = true := by
  intro n
  induction n with
  | zero => exact fun r h => h
  | succ n ih =>
    intro r h
    refine read_then_inRange h fun b r1 h1 => ?_
    split
    · exact ih _ (Regs.inRange_of_rex_none h1 (recordPrefix_rex ‹_›))
    · split
      · have hrex := Regs.inRange_of_isRex h1 ‹_›
        split
        · exact ih _ hrex
        · exact read_then_inRange hrex fun b0 r2 h2 => Regs.inRange_of_eq h2 rfl rfl rfl
      · exact Regs.inRange_of_eq h1 rfl rfl rfl

/-- R106 to R108: the escape test changes no register. -/
theorem escapeTaken_error_regs {bt : Bitness} {w : List Byte} {b0 : Byte} {r : Regs} {st : Stop}
    (h : escapeTaken bt w b0 r = .error st) : st.regs = r := by
  unfold escapeTaken at h
  split at h
  · split at h
    · cases h
    · split at h
      · cases h; exact peekByte_error_regs ‹_›
      · cases h
    · split at h
      · cases h; exact peekByte_error_regs ‹_›
      · cases h
  · cases h

/-- R117, R119: the end of a payload keeps the held REX byte. -/
@[simp] theorem endPayload_rex (bt : Bitness) (ps : PrefixState) : (endPayload bt ps).rex = ps.rex := by
  cases bt <;> rfl

/-- R104: the end of a legacy scan keeps the held REX byte. -/
@[simp] theorem legacyEnd_rex (ps : PrefixState) : (legacyEnd ps).rex = ps.rex := by
  rw [legacyEnd_eq]

theorem readVex2_inRange (bt : Bitness) (w : List Byte) (r : Regs) (h : r.inRange = true) :
    (regsAfter (readVex2 bt w r)).inRange = true :=
  read_then_inRange h fun _ _ h1 => Regs.inRange_of_eq h1 (endPayload_rex ..) rfl rfl

theorem readVex3_inRange (bt : Bitness) (w : List Byte) (r : Regs) (h : r.inRange = true) :
    (regsAfter (readVex3 bt w r)).inRange = true := by
  refine read_then_inRange h fun p1 r1 h1 => read_then_inRange h1 fun p2 r2 h2 => ?_
  split
  · exact Regs.inRange_of_eq h2 rfl rfl rfl
  · exact Regs.inRange_of_eq h2 (endPayload_rex ..) rfl rfl

theorem readEvex_inRange (bt : Bitness) (w : List Byte) (r : Regs) (h : r.inRange = true) :
    (regsAfter (readEvex bt w r)).inRange = true := by
  refine read_then_inRange h fun P0 r1 h1 => read_then_inRange h1 fun P1 r2 h2 => read_then_inRange h2 fun P2 r3 h3 => ?_
  split
  · exact Regs.inRange_of_eq h3 (endPayload_rex ..) rfl rfl
  · exact Regs.inRange_of_eq h3 rfl rfl rfl
  · exact Regs.inRange_of_eq h3 rfl rfl rfl

theorem readEscape_inRange (bt : Bitness) (w : List Byte) (b0 : Byte) (r : Regs) (h : r.inRange = true) :
    (regsAfter (readEscape bt w b0 r)).inRange = true := by
  unfold readEscape
  split
  · exact h
  · split
    · exact readVex2_inRange bt w r h
    · split
      · exact readVex3_inRange bt w r h
      · exact readEvex_inRange bt w r h

theorem prefixScan_inRange (order : RexOrder) (bt : Bitness) (w : List Byte) (r : Regs) (h : r.inRange = true) :
    (regsAfter (prefixScan order bt w r)).inRange = true := by
  refine work_then_inRange (prefixLoop_inRange order bt w _ r h) fun r1 h1 => ?_
  split
  · rw [regsAfter_error, escapeTaken_error_regs ‹_›]; exact h1
  · exact readEscape_inRange bt w _ r1 h1
  · exact Regs.inRange_of_eq h1 (legacyEnd_rex _) rfl rfl

/-! ### The opcode -/

theorem readLegacyOpcode_inRange (w : List Byte) (r : Regs) (h : r.inRange = true) :
    (regsAfter (readLegacyOpcode w r)).inRange = true := by
  refine read_then_inRange h fun o2 r1 h1 => ?_
  split
  · exact read_then_inRange (Regs.inRange_of_eq h1 rfl rfl rfl) fun o r2 h2 => Regs.inRange_of_eq h2 rfl rfl rfl
  · split
    · exact read_then_inRange (Regs.inRange_of_eq h1 rfl rfl rfl) fun o r2 h2 => Regs.inRange_of_eq h2 rfl rfl rfl
    · exact Regs.inRange_of_eq h1 rfl rfl rfl

theorem readOpcode_inRange (w : List Byte) (r : Regs) (h : r.inRange = true) :
    (regsAfter (readOpcode w r)).inRange = true := by
  unfold readOpcode
  split
  · split
    · exact readLegacyOpcode_inRange w r h
    · exact h
  · exact read_then_inRange h fun o r1 h1 => Regs.inRange_of_eq h1 rfl rfl rfl

theorem lookupEntry_inRange (r : Regs) (h : r.inRange = true) : (regsAfter (lookupEntry r)).inRange = true := by
  unfold lookupEntry
  split
  · exact Regs.inRange_of_eq h rfl rfl rfl
  · split
    · exact Regs.inRange_of_eq h rfl rfl rfl
    · split
      · exact Regs.inRange_of_eq h rfl rfl rfl
      · split <;> exact Regs.inRange_of_eq h rfl rfl rfl

theorem opcodeLookup_inRange (w : List Byte) (r : Regs) (h : r.inRange = true) :
    (regsAfter (opcodeLookup w r)).inRange = true :=
  work_then_inRange (readOpcode_inRange w r h) lookupEntry_inRange

/-! ### ModRM, SIB, displacement, immediate -/

theorem readSib_inRange (w : List Byte) (as : AddrSize) (rm : BitVec 3) (r : Regs) (h : r.inRange = true) :
    (regsAfter (readSib w as rm r)).inRange = true := by
  unfold readSib
  split
  · exact read_then_inRange h fun b r1 h1 => Regs.inRange_of_eq h1 rfl rfl rfl
  · exact h

theorem readImm_inRange (w : List Byte) (has : Bool) (r : Regs) (h : r.inRange = true) :
    (regsAfter (readImm w has r)).inRange = true := by
  unfold readImm
  split
  · exact read_then_inRange h fun b r1 h1 => Regs.inRange_of_eq h1 rfl rfl rfl
  · exact h

theorem readDisp_inRange (w : List Byte) (size : Nat) (r : Regs) (h : r.inRange = true) :
    (regsAfter (readDisp w size r)).inRange = true := by
  unfold readDisp
  split
  · exact read_then_inRange h fun b0 r1 h1 => Regs.inRange_of_eq h1 rfl rfl rfl
  · exact read_then_inRange h fun b0 r1 h1 => read_then_inRange h1 fun b1 r2 h2 => Regs.inRange_of_eq h2 rfl rfl rfl
  · exact read_then_inRange h fun b0 r1 h1 => read_then_inRange h1 fun b1 r2 h2 => read_then_inRange h2 fun b2 r3 h3 =>
      read_then_inRange h3 fun b3 r4 h4 => Regs.inRange_of_eq h4 rfl rfl rfl
  · exact h

/-- R154 to R162: the memory operand's registers are in range: its displacement size is that of an addressing form, and
16-bit addressing has scale 1. -/
theorem Regs.inRange_of_memory {r : Regs} (h : r.inRange = true) (bt : Bitness) (as : AddrSize) (X B : Bool) (mod : BitVec 2)
    (rm : BitVec 3) (sib : Option Byte) :
    ({ r with md := some (memWork bt as X B mod rm sib), dispSize := dispSizeOf as mod rm sib } : Regs).inRange = true := by
  rw [Regs.inRange_iff] at h ⊢
  refine ⟨h.1, dispSizeOf_mem as mod rm sib, ?_⟩
  rintro m hm has
  cases hm
  rw [memWork_as] at has
  rw [has, memWork_scale16]

theorem readMemory_inRange (bt : Bitness) (w : List Byte) (m : Byte) (r : Regs) (h : r.inRange = true) :
    (regsAfter (readMemory bt w m r)).inRange = true :=
  work_then_inRange (readSib_inRange w _ _ r h) fun _ h1 => readDisp_inRange w _ _ (Regs.inRange_of_memory h1 ..)

theorem readOperands_inRange (bt : Bitness) (w : List Byte) (m : Byte) (sh : Shape) (r : Regs) (h : r.inRange = true) :
    (regsAfter (readOperands bt w m sh r)).inRange = true := by
  unfold readOperands
  split
  · exact readImm_inRange w _ r h
  · split
    · exact h
    · exact work_then_inRange (readMemory_inRange bt w m r h) (readImm_inRange w _)

theorem modrmState_inRange (bt : Bitness) (w : List Byte) (r : Regs) (h : r.inRange = true) :
    (regsAfter (modrmState bt w r)).inRange = true := by
  refine read_then_inRange h fun m r1 h1 => ?_
  split
  · exact Regs.inRange_of_eq h1 rfl rfl rfl
  · split
    · exact Regs.inRange_of_eq h1 rfl rfl rfl
    · exact readOperands_inRange bt w _ _ _ (Regs.inRange_of_eq h1 rfl rfl rfl)

/-! ### The decoder -/

theorem scanRegs_inRange (order : RexOrder) (bt : Bitness) (w : List Byte) :
    (regsAfter (scanRegs order bt w)).inRange = true := by
  refine work_then_inRange (prefixScan_inRange order bt w _ Regs.initial_inRange) fun r1 h1 =>
    work_then_inRange (opcodeLookup_inRange w r1 h1) fun r2 h2 => ?_
  split
  · exact modrmState_inRange bt w r2 h2
  · exact h2

/-- R24 to R28: an answer of the decoder leaves the registers in range. -/
theorem decode_ok_inRange {order : RexOrder} {bt : Bitness} {w : List Byte} {i : Instr} {r : Regs}
    (h : decode order bt w = .ok (i, r)) : r.inRange = true := by
  obtain ⟨hs, -⟩ := (decode_eq_ok order bt w i r).mp h
  have hr := scanRegs_inRange order bt w
  rwa [hs] at hr

/-- R24 to R28, R500: a raise of the decoder leaves the registers in range. -/
theorem decode_error_inRange {order : RexOrder} {bt : Bitness} {w : List Byte} {st : Stop}
    (h : decode order bt w = .error st) : st.regs.inRange = true := by
  have hr := scanRegs_inRange order bt w
  unfold decode at h
  split at h
  · rename_i he; rw [he] at hr; cases h; exact hr
  · rename_i r1 he
    rw [he] at hr
    split at h
    · cases h; exact hr
    · cases h

end Sys2Proof.Machine
end

section
/-! The record of an instruction is sound (spec/44_assembler.md R217): its length by the cursor, its slots by the row's shape,
its masking and rounding by `VectorFieldDecode`. -/

namespace Sys2Proof.Machine

open Sys2Proof

/-! ### The cursor after a decode -/

theorem cursor_le_succ (p : Fin 16) (h : p.val < 15) : p.val ≤ (p + 1).val := by
  rw [cursor_succ p h]; omega

theorem readSib_pos_le {w : List Byte} {as : AddrSize} {rm : BitVec 3} {r r' : Regs} (h : readSib w as rm r = .ok r') :
    r.pos.val ≤ r'.pos.val := by
  obtain ⟨-, b, hpos, -, rfl⟩ | ⟨-, rfl⟩ := readSib_ok w as rm r r' h
  · exact cursor_le_succ _ hpos
  · exact Nat.le_refl _

theorem readImm_pos_le {w : List Byte} {has : Bool} {r r' : Regs} (h : readImm w has r = .ok r') :
    r.pos.val ≤ r'.pos.val := by
  obtain ⟨-, b, hpos, -, rfl⟩ | ⟨-, rfl⟩ := readImm_ok w has r r' h
  · exact cursor_le_succ _ hpos
  · exact Nat.le_refl _

theorem readMemory_pos_le {bt : Bitness} {w : List Byte} {m : Byte} {r r' : Regs} (h : readMemory bt w m r = .ok r') :
    r.pos.val ≤ r'.pos.val := by
  obtain ⟨r1, hsib, hdisp⟩ := readMemory_ok bt w m r r' h
  obtain ⟨-, hpos⟩ := readDisp_ok w _ _ r' (dispSizeOf_mem ..) hdisp
  calc r.pos.val ≤ r1.pos.val := readSib_pos_le hsib
    _ ≤ r'.pos.val := by rw [hpos]; exact Nat.le_add_right ..

theorem readOperands_pos_le {bt : Bitness} {w : List Byte} {m : Byte} {sh : Shape} {r r' : Regs}
    (h : readOperands bt w m sh r = .ok r') : r.pos.val ≤ r'.pos.val := by
  obtain ⟨-, himm⟩ | ⟨-, -, r1, hmem, himm⟩ := readOperands_ok bt w m sh r r' h
  · exact readImm_pos_le himm
  · exact Nat.le_trans (readMemory_pos_le hmem) (readImm_pos_le himm)

theorem modrmState_pos_le {bt : Bitness} {w : List Byte} {r r' : Regs} (h : modrmState bt w r = .ok r') :
    r.pos.val ≤ r'.pos.val := by
  obtain ⟨m, f, rw, hpos, -, -, -, hops⟩ := modrmState_ok bt w r r' h
  exact Nat.le_trans (cursor_le_succ _ hpos) (readOperands_pos_le hops)

theorem opcodeLookup_pos_lt {w : List Byte} {r r' : Regs} (h : opcodeLookup w r = .ok r') : r.pos.val < r'.pos.val := by
  obtain ⟨r1, hread, hlookup⟩ := opcodeLookup_ok w r r' h
  obtain ⟨o, -, hpos, -, -⟩ := readOpcode_ok w r r1 hread
  obtain ⟨-, -, ⟨-, rfl⟩ | ⟨-, f, -, rfl⟩⟩ := lookupEntry_ok r1 r' hlookup <;> exact hpos

/-- R212: an answer of the decoder has read a byte. -/
theorem decode_ok_pos {order : RexOrder} {bt : Bitness} {w : List Byte} {i : Instr} {r : Regs}
    (h : decode order bt w = .ok (i, r)) : 1 ≤ r.pos.val := by
  obtain ⟨hs, -⟩ := (decode_eq_ok order bt w i r).mp h
  obtain ⟨r1, r2, -, hop, ⟨-, hmodrm⟩ | ⟨-, rfl⟩⟩ := scanRegs_ok order bt w r hs
  · exact Nat.le_trans (Nat.one_le_of_lt (opcodeLookup_pos_lt hop)) (modrmState_pos_le hmodrm)
  · exact Nat.one_le_of_lt (opcodeLookup_pos_lt hop)

/-! ### The vector fields -/

/-- R141: the element sizes of the broadcast forms. -/
theorem tableForm_bcst_elem (c : Code) : (tableForm c).bcst.map Prod.snd ∈ [none, some 4, some 8] := by
  cases c <;> decide

/-- R183: the vector lengths of EVEX. -/
theorem evexLength_mem (ll : BitVec 2) (h : ll ≠ 3) : 128 <<< ll.toNat ∈ [128, 256, 512] := by
  revert ll; decide

/-- R195: the displacement factors. -/
theorem dispFactor_mem (bcst : Option (MemorySize × Nat)) (b : Bool) (vl : Nat)
    (hb : bcst.map Prod.snd ∈ [none, some 4, some 8]) (hv : vl ∈ [128, 256, 512]) :
    dispFactor bcst b vl ∈ [1, 4, 8, 16, 32, 64] := by
  have hfull : vl / 8 ∈ [1, 4, 8, 16, 32, 64] := by
    simp only [List.mem_cons, List.not_mem_nil, or_false] at hv
    rcases hv with rfl | rfl | rfl <;> decide
  unfold dispFactor
  split
  · simp only [Option.map_some, List.mem_cons, reduceCtorEq, Option.some.injEq, List.not_mem_nil, or_false, false_or] at hb
    rcases hb with rfl | rfl <;> decide
  · exact hfull
  · exact hfull

/-- R191: zeroing that passes the checks has an opmask. -/
theorem opmask_of_zeroing (f : Form) (ps : PrefixState) (regform : Bool) (h : evexFieldsBad f ps regform = false)
    (hz : ps.z = true) : (opmaskOf ps.aaa).isSome = true := by
  have haaa : ps.aaa ≠ 0 := fun ha => by simp [evexFieldsBad, hz, ha] at h
  rw [opmaskOf, if_neg haaa]; rfl

/-- R29: what the ranges of `vf` say. -/
theorem VectorFields.inRange_iff (v : VectorFields) :
    v.inRange = true ↔
      v.vl ∈ [0, 128, 256, 512] ∧ v.n ∈ [1, 4, 8, 16, 32, 64] ∧ (v.zeroing = true → v.opmask.isSome = true) := by
  unfold VectorFields.inRange
  cases v.zeroing <;> simp [and_assoc]

/-- R29, R48: the initial `vf` is in range. -/
theorem VectorFields.initial_inRange : VectorFields.initial.inRange = true := rfl

/-- R29, R186: a row of the table gives `vf` in range, and no rounding. -/
theorem vectorFieldDecode_inRange (c : Code) (ps : PrefixState) (regform disp8 : Bool) (vf : VectorFields)
    (h : vectorFieldDecode (tableForm c) ps regform disp8 = .ok vf) :
    vf.inRange = true ∧ vf.rc = .None ∧ vf.sae = false := by
  have hvex (hs : ps.space = .VEX2 ∨ ps.space = .VEX3) : vf.inRange = true ∧ vf.rc = .None ∧ vf.sae = false := by
    rw [vectorFieldDecode_vex _ _ _ _ hs] at h
    split at h
    · cases h
    · cases h
      cases ps.L <;> exact ⟨rfl, rfl, rfl⟩
  cases hs : ps.space with
  | Legacy =>
    rw [vectorFieldDecode_legacy _ _ _ _ hs] at h
    cases h
    exact ⟨VectorFields.initial_inRange, rfl, rfl⟩
  | VEX2 => exact hvex (.inl hs)
  | VEX3 => exact hvex (.inr hs)
  | EVEX =>
    rw [vectorFieldDecode_evex _ _ _ _ hs (tableForm_rounding c)] at h
    split at h
    · cases h
    · rename_i hok
      simp only [Bool.or_eq_true, decide_eq_true_eq, not_or, Bool.not_eq_true] at hok
      obtain ⟨⟨-, hll⟩, hfields⟩ := hok
      have hvl := evexLength_mem ps.LL hll
      cases h
      refine ⟨(VectorFields.inRange_iff _).mpr ⟨List.mem_cons_of_mem _ hvl, ?_, ?_⟩, rfl, rfl⟩
      · cases disp8 with
        | false => exact List.mem_cons_self
        | true => exact dispFactor_mem _ _ _ (tableForm_bcst_elem c) hvl
      · exact opmask_of_zeroing _ _ _ hfields

/-! ### The record -/

/-- R211 to R216: over `assembleBase`, the assembler writes the memory descriptor and the rounding fields alone. -/
theorem assemble_eq (f : Form) (p : Pieces) :
    assemble f p =
      { assembleBase f p with
        memorySegment := (assemble f p).memorySegment, memoryBase := (assemble f p).memoryBase
        memoryIndex := (assemble f p).memoryIndex, memoryIndexScale := (assemble f p).memoryIndexScale
        memoryDisplacement := (assemble f p).memoryDisplacement, memoryDisplSize := (assemble f p).memoryDisplSize
        memorySize := (assemble f p).memorySize, roundingControl := (assemble f p).roundingControl
        suppressAllExceptions := (assemble f p).suppressAllExceptions } := by
  cases h : p.md with
  | none => rw [assemble_reg f p h]
  | some md => rw [assemble_mem f p md h]; rfl

@[simp] theorem assemble_byteLength (f : Form) (p : Pieces) : (assemble f p).byteLength = p.pos :=
  congrArg Instruction.byteLength (assemble_eq f p)
@[simp] theorem assemble_opCount (f : Form) (p : Pieces) : (assemble f p).opCount = f.slots.length :=
  congrArg Instruction.opCount (assemble_eq f p)
@[simp] theorem assemble_opMask (f : Form) (p : Pieces) : (assemble f p).opMask = p.vf.opmask :=
  congrArg Instruction.opMask (assemble_eq f p)
@[simp] theorem assemble_zeroingMasking (f : Form) (p : Pieces) : (assemble f p).zeroingMasking = p.vf.zeroing :=
  congrArg Instruction.zeroingMasking (assemble_eq f p)

/-- R216: without rounding in `vf` the record has none. -/
theorem assemble_rounding (f : Form) (p : Pieces) (hrc : p.vf.rc = .None) (hsae : p.vf.sae = false) :
    (assemble f p).roundingControl = .None ∧ (assemble f p).suppressAllExceptions = false := by
  cases h : p.md with
  | none => rw [assemble_reg f p h]; exact ⟨hrc, hsae⟩
  | some md => rw [assemble_mem f p md h]; exact ⟨rfl, rfl⟩

/-- R32, R46: the displacement size of a record is the encoded one, 0 without a memory operand. -/
theorem assemble_displSize_mem (f : Form) (p : Pieces) (h : p.dispSize ∈ [0, 1, 2, 4]) :
    (assemble f p).memoryDisplSize ∈ [0, 1, 2, 4] := by
  cases hmd : p.md with
  | none => rw [assemble_reg f p hmd]; exact List.mem_cons_self
  | some md => rw [assemble_mem f p md hmd]; exact h

/-- R138: a shape has at most `MAX_OPS` slots. -/
theorem Shape.slots_length_le (sh : Shape) (cls : RegClass) : (sh.slots cls).length ≤ 4 := by
  cases sh <;> simp [Shape.slots]

/-- R46: four slots hold a list of at most four, then unused slots. -/
theorem slotAt_padded (l : List OpSlot) (h : l.length ≤ 4) :
    [slotAt l 0, slotAt l 1, slotAt l 2, slotAt l 3] = l ++ List.replicate (4 - l.length) OpSlot.unused := by
  match l, h with
  | [], _ => rfl
  | [_], _ => rfl
  | [_, _], _ => rfl
  | [_, _, _], _ => rfl
  | [_, _, _, _], _ => rfl

/-- R138, R213, R214: the record's slots are the filled slots of its row's shape, then unused ones. -/
theorem assemble_ops (c : Code) (p : Pieces) :
    (assemble (tableForm c) p).ops =
      (tableForm c).slots.map (fillSlot p) ++ List.replicate (4 - (tableForm c).slots.length) OpSlot.unused := by
  have hlen : ((tableForm c).slots.map (fillSlot p)).length ≤ 4 := by
    rw [List.length_map]; exact Shape.slots_length_le ..
  rw [assemble_eq, ← List.length_map (fillSlot p), ← slotAt_padded _ hlen]
  rfl

/-- R217 item 3: a filled slot holds what its kind calls for. -/
theorem fillSlot_sound (p : Pieces) (sl : Slot) : (fillSlot p sl).sound = true := by
  cases sl with
  | rm cls => cases h : p.md <;> simp [fillSlot, h, registerSlot, memorySlot, OpSlot.sound]
  | reg cls | kreg | vvvv cls | imm8 => rfl

/-- R217: of the filled slots of a shape at most one is memory, since a shape has at most one rm slot. -/
theorem Shape.memorySlots_le (sh : Shape) (cls : RegClass) (p : Pieces) :
    (((sh.slots cls).map (fillSlot p)).filter fun o => decide (o.kind = .Memory)).length ≤ 1 := by
  cases hmd : p.md <;> cases sh <;> simp [Shape.slots, fillSlot, hmd, registerSlot, memorySlot, immSlot]

/-- R217: a record has at most one memory slot. -/
theorem assemble_memorySlots_le (c : Code) (p : Pieces) : (assemble (tableForm c) p).memorySlots ≤ 1 := by
  have hpad (n : Nat) : (List.replicate n OpSlot.unused).filter (fun o => decide (o.kind = .Memory)) = [] := by
    simp [OpSlot.unused]
  unfold Instruction.memorySlots
  rw [assemble_ops, List.filter_append, hpad, List.append_nil]
  exact Shape.memorySlots_le ..

/-- R217: the record of an instruction is sound, where the cursor has read a byte and `vf` is in range without rounding. -/
theorem assemble_sound (i : Instr) (s : State) (vf : VectorFields) (hpos : 1 ≤ s.regs.pos.val) (hvf : vf.inRange = true)
    (hrc : vf.rc = .None) (hsae : vf.sae = false) :
    (assemble (tableForm i.code) { instrPieces i s with vf := vf }).sound = true := by
  have hcount : (tableForm i.code).slots.length ≤ Config.maxOps := Shape.slots_length_le ..
  have hlen : s.regs.pos.val ≤ Config.maxLen := Nat.le_of_lt_succ s.regs.pos.isLt
  have hround := assemble_rounding (tableForm i.code) { instrPieces i s with vf := vf } hrc hsae
  have hdisp := assemble_displSize_mem (tableForm i.code) { instrPieces i s with vf := vf } (dispSize_mem _)
  have hslots : ((assemble (tableForm i.code) { instrPieces i s with vf := vf }).ops.take
      (tableForm i.code).slots.length).all OpSlot.sound = true := by
    rw [assemble_ops, List.take_left' (by rw [List.length_map]), List.all_map, List.all_eq_true]
    exact fun sl _ => fillSlot_sound _ sl
  obtain ⟨-, -, hmask⟩ := (VectorFields.inRange_iff vf).mp hvf
  have hzero : (vf.opmask.isSome || !vf.zeroing) = true := by
    cases hz : vf.zeroing with
    | false => simp
    | true => simp [hmask hz]
  unfold Instruction.sound
  simp only [assemble_byteLength, assemble_opCount, assemble_opMask, assemble_zeroingMasking, Bool.and_eq_true,
    decide_eq_true_eq, Bool.not_eq_true']
  exact ⟨⟨⟨⟨⟨⟨⟨⟨⟨hpos, hlen⟩, hcount⟩, instr_descriptorMatches i s vf⟩, hslots⟩, assemble_memorySlots_le ..⟩, hzero⟩,
    hround.1⟩, hround.2⟩, hdisp⟩

end Sys2Proof.Machine
end

section
/-! Everything a transaction can do: how a meaning ends, how a step ends, and what neither reads nor changes
(spec/10_state.md R20 to R22, R43 to R45). -/

namespace Sys2Proof.Machine

open Sys2Proof Sys2Proof.Spec

/-! ### How a meaning ends -/

/-- R199: what `VectorFieldDecode` gives for an instruction. -/
def instrFields (i : Instr) (s : State) : Except DecodeError VectorFields :=
  vectorFieldDecode (tableForm i.code) (instrPieces i s).ps (instrPieces i s).md.isNone
    (isDisp8 (instrPieces i s).md (instrPieces i s).dispSize)

/-- R199, R218: a meaning raises an error, or ends in `Done` with the record assembled over the `vf` that
`VectorFieldDecode` gives; it never stops the machine. -/
theorem exec_cases (i : Instr) (s : State) :
    (∃ e, exec i s = .next (s.raise e)) ∨
    (∃ vf, instrFields i s = .ok vf ∧
      exec i s = .next (State.done { s with vf := vf } (assemble (tableForm i.code) { instrPieces i s with vf := vf }))) := by
  rw [exec_eq_complete]
  obtain ⟨-, -, h⟩ | ⟨e, -, h⟩ | ⟨vf, hvf, h⟩ :=
    complete_cases (tableForm i.code) (instrPieces i s) s (instr_descriptorMatches i s)
  · exact .inl ⟨_, h⟩
  · exact .inl ⟨e, h⟩
  · exact .inr ⟨vf, hvf, h⟩

/-- What an earlier transaction ended with makes no difference to the work that every meaning shares. -/
theorem complete_result (f : Form) (p : Pieces) (s : State) (x : DecodeResult) :
    complete f p { s with result := x } = complete f p s := by
  unfold complete finish
  split
  · rfl
  · split
    · rfl
    · split <;> rfl

/-- What an earlier transaction ended with makes no difference to a meaning. -/
theorem exec_result (i : Instr) (s : State) (x : DecodeResult) : exec i { s with result := x } = exec i s := by
  simp only [exec_eq_complete]
  exact complete_result _ (instrPieces i s) s x

/-! ### How a step ends -/

/-- R222: a step on a window that decodes. -/
theorem step_of_decode_ok (s : State) (i : Instr) (r : Regs) (h : decode s.rexOrder s.bitness s.window = .ok (i, r)) :
    step s = exec i (s.decoded r) := by
  unfold step; rw [h]

/-- R500: a step on a window on which the decoder raises. -/
theorem step_of_decode_error (s : State) (st : Stop) (h : decode s.rexOrder s.bitness s.window = .error st) :
    step s = .next (s.stopped st) := by
  unfold step; rw [h]

/-- R210: everything a step can do: the decoder's raise, the meaning's raise, or the record. -/
theorem step_cases (s : State) :
    (∃ st, decode s.rexOrder s.bitness s.window = .error st ∧ step s = .next (s.stopped st)) ∨
    (∃ i r, decode s.rexOrder s.bitness s.window = .ok (i, r) ∧
      ((∃ e, step s = .next ((s.decoded r).raise e)) ∨
        ∃ vf, instrFields i (s.decoded r) = .ok vf ∧
          step s = .next (State.done { s.decoded r with vf := vf }
            (assemble (tableForm i.code) { instrPieces i (s.decoded r) with vf := vf })))) := by
  cases hd : decode s.rexOrder s.bitness s.window with
  | error st => exact .inl ⟨st, rfl, step_of_decode_error s st hd⟩
  | ok v =>
    obtain ⟨i, r⟩ := v
    rw [step_of_decode_ok s i r hd]
    exact .inr ⟨i, r, rfl, exec_cases i (s.decoded r)⟩

/-- Where two states agree in their inputs, what they start a meaning with differs in `result` alone. -/
theorem State.decoded_congr (s t : State) (r : Regs) (hb : s.buffer = t.buffer) (ho : s.startOffset = t.startOffset)
    (ht : s.bitness = t.bitness) (hx : s.rexOrder = t.rexOrder) :
    s.decoded r = { t.decoded r with result := s.result } := by
  simp only [State.decoded, State.begin, State.window_congr s t hb ho, hb, ho, ht, hx]

/-- Where two states agree in their inputs, a raise of the decoder leaves them equal. -/
theorem State.stopped_congr (s t : State) (st : Stop) (hb : s.buffer = t.buffer) (ho : s.startOffset = t.startOffset)
    (ht : s.bitness = t.bitness) (hx : s.rexOrder = t.rexOrder) : s.stopped st = t.stopped st := by
  simp only [State.stopped, State.raise, State.begin, State.window_congr s t hb ho, hb, ho, ht, hx]

/-! ### Start and reset -/

/-- R24: in a canonical buffer `avail` starts at the number of bytes from `start_offset` to the end, 0 past it. -/
theorem State.begin_avail_of_wf (s : State) (h : s.buffer.wf = true) :
    s.begin.avail = if s.startOffset ≤ s.buffer.length then s.buffer.length - s.startOffset else 0 := by
  rw [State.begin_avail, State.window_length s h]
  split <;> omega

/-- R48: the registers at their initial values satisfy the invariant, with any canonical buffer and any error. -/
theorem State.inv_of_initial (s : State) (e : DecodeError) (hb : s.buffer.wf = true) (hr : s.regs = Regs.initial)
    (hv : s.vf = VectorFields.initial) (he : s.result = .Err e) : s.Inv := by
  refine ⟨hb, ?_, ?_, ?_⟩
  · rw [hr]; exact Regs.initial_inRange
  · rw [hv]; exact VectorFields.initial_inRange
  · rw [he]; rfl

/-! ### The obligations -/

/-- Settles O8: the decoder leaves the registers in range however it ends, `VectorFieldDecode` gives `vf` in range, and the
record assembled from them is sound. -/
theorem stepKeepsInvariant : Obligations.StepKeepsInvariant := by
  rintro s t ⟨hbuf, -, -, -⟩ h
  obtain ⟨st, hd, hs⟩ | ⟨i, r, hd, ⟨e, hs⟩ | ⟨vf, hvf, hs⟩⟩ := step_cases s
  · rw [hs] at h; cases h
    exact ⟨hbuf, decode_error_inRange hd, VectorFields.initial_inRange, rfl⟩
  · rw [hs] at h; cases h
    exact ⟨hbuf, decode_ok_inRange hd, VectorFields.initial_inRange, rfl⟩
  · obtain ⟨hrange, hrc, hsae⟩ := vectorFieldDecode_inRange _ _ _ _ _ hvf
    rw [hs] at h; cases h
    exact ⟨hbuf, decode_ok_inRange hd, hrange, assemble_sound i (s.decoded r) vf (decode_ok_pos hd) hrange hrc hsae⟩

/-- Settles O3, by the three ways in which a step can end. -/
theorem stepEndsAndKeepsInputs : Obligations.StepEndsAndKeepsInputs := by
  intro s
  obtain ⟨st, -, h⟩ | ⟨i, r, -, ⟨e, h⟩ | ⟨vf, -, h⟩⟩ := step_cases s
  · exact ⟨_, h, .inr ⟨st.err, rfl, rfl⟩, rfl, rfl, rfl, rfl, fun _ => rfl⟩
  · exact ⟨_, h, .inr ⟨e, rfl, rfl⟩, rfl, rfl, rfl, rfl, fun _ => rfl⟩
  · exact ⟨_, h, .inl ⟨_, rfl, rfl⟩, rfl, rfl, rfl, rfl, fun _ => rfl⟩

/-- Settles O38: a meaning raises or completes, and neither writes anything but `vf`, `fsm` and `result`. -/
theorem execChangesOnlyOutcome : Obligations.ExecChangesOnlyOutcome := by
  intro i s t h
  obtain ⟨e, he⟩ | ⟨vf, -, hd⟩ := exec_cases i s
  · rw [he] at h; cases h; exact ⟨rfl, fun _ => rfl⟩
  · rw [hd] at h; cases h; exact ⟨rfl, fun _ => rfl⟩

/-- Settles O2: the states that `step` goes through are the obligation's, written out. -/
theorem stepRunsDecodedInstruction : Obligations.StepRunsDecodedInstruction :=
  fun s => ⟨fun i r h => step_of_decode_ok s i r h, fun st h => step_of_decode_error s st h⟩

/-- Settles O4: the decoder reads the inputs alone, and what its answer starts differs at most in `result`, which no
meaning reads. -/
theorem stepDependsOnInputsOnly : Obligations.StepDependsOnInputsOnly := by
  intro s t hb ho ht hx
  cases hd : decode s.rexOrder s.bitness s.window with
  | error st =>
    have hd' := hd
    rw [hx, ht, State.window_congr s t hb ho] at hd'
    rw [step_of_decode_error s st hd, step_of_decode_error t st hd', State.stopped_congr s t st hb ho ht hx]
  | ok v =>
    obtain ⟨i, r⟩ := v
    have hd' := hd
    rw [hx, ht, State.window_congr s t hb ho] at hd'
    rw [step_of_decode_ok s i r hd, step_of_decode_ok t i r hd', State.decoded_congr s t r hb ho ht hx, exec_result]

/-- Settles O1: reset and `Start` write the initial values, and no step reads `result` (O4). -/
theorem resetAndStartInitialiseRegisters : Obligations.ResetAndStartInitialiseRegisters := by
  refine ⟨rfl, rfl, rfl, rfl, fun _ => ⟨rfl, rfl, rfl, rfl⟩, fun s => ⟨rfl, rfl, rfl, rfl, rfl, ?_, rfl, rfl, rfl, ?_⟩⟩
  · exact fun x => stepDependsOnInputsOnly { s with result := x } s rfl rfl rfl rfl
  · exact State.begin_avail_of_wf s

/-- Settles O9: reset leaves the registers at their initial values and no record. -/
theorem resetSatisfiesInvariant : Obligations.ResetSatisfiesInvariant := by
  refine ⟨State.inv_of_initial _ .UnexpectedEof rfl rfl rfl rfl, rfl, fun order => ⟨?_, rfl⟩,
    fun s => ⟨?_, rfl, rfl, rfl, rfl⟩⟩
  · exact State.inv_of_initial _ .UnexpectedEof rfl rfl rfl rfl
  · exact fun hb => State.inv_of_initial _ .UnexpectedEof hb rfl rfl rfl

end Sys2Proof.Machine
end

section
/-! The window and the cursor (spec/20_memory.md R52 to R57): what the window reads, what `ReadByte` gives, and the value of
a multi-byte displacement. -/

namespace Sys2Proof.Machine

open Sys2Proof Sys2Proof.Spec

/-! ### The window -/

/-- R52: byte `i` of the window of a canonical buffer is the buffer's at `start_offset + i`; both exist or neither does. -/
theorem State.window_getElem? (s : State) (h : s.buffer.wf = true) (i : Nat) :
    s.window[i]? = s.buffer.read (s.startOffset + i) := by
  have hb := Memory.eq_ofBytes_of_wf s.buffer h
  rw [State.window_ofBytes s _ hb, List.getElem?_drop, ← Memory.read_ofBytes, ← hb]

/-! ### A run of reads -/

/-- R53, R55: the registers after `k` bytes have been read: the cursor `k` further, nothing else changed. -/
def Regs.advance (r : Regs) (k : Nat) : Regs := { r with pos := Fin.ofNat 16 (r.pos.val + k) }

@[simp] theorem Regs.advance_zero (r : Regs) : r.advance 0 = r := by simp [Regs.advance]

/-- R55: a cursor that stays below 16 does not wrap. -/
theorem Regs.advance_pos (r : Regs) (k : Nat) (h : r.pos.val + k ≤ 15) : (r.advance k).pos.val = r.pos.val + k :=
  Nat.mod_eq_of_lt (by omega)

/-- R53: one more byte read advances the cursor by one more. -/
theorem Regs.advance_succ (r : Regs) (k : Nat) (h : r.pos.val + k < 15) :
    { r.advance k with pos := (r.advance k).pos + 1 } = r.advance (k + 1) := by
  have hpos : (r.advance k).pos + 1 = (r.advance (k + 1)).pos := by
    apply Fin.ext
    rw [cursor_succ _ (by rw [r.advance_pos k (by omega)]; exact h), r.advance_pos k (by omega),
      r.advance_pos (k + 1) h, Nat.add_assoc]
  rw [hpos]; rfl

/-- R53: the read after `k` bytes of a run of `n` that starts at the cursor gives the run's byte `k`. -/
theorem readByte_advance {w : List Byte} {r : Regs} {n k : Nat} {b : Byte} (hpos : r.pos.val + n ≤ 15)
    (hb : ((w.drop r.pos.val).take n)[k]? = some b) : readByte w (r.advance k) = .ok (b, r.advance (k + 1)) := by
  rw [List.getElem?_take, Option.ite_none_right_eq_some, List.getElem?_drop] at hb
  obtain ⟨hk, hb⟩ := hb
  have hlt : r.pos.val + k < 15 := by omega
  rw [readByte_eq_ok, r.advance_pos k (by omega)]
  exact ⟨hlt, hb, (r.advance_succ k hlt).symm⟩

/-! ### Signed little-endian values -/

/-- R57: a byte below `hi` adds its own value to 256 times that of `hi`. -/
theorem toNat_append_byte {n : Nat} (hi : BitVec n) (b : Byte) : (hi ++ b).toNat = b.toNat + 256 * hi.toNat := by
  rw [BitVec.toNat_append, ← Nat.shiftLeft_add_eq_or_of_lt b.isLt, Nat.shiftLeft_eq]
  omega

/-- R57: a word whose unsigned value is that of the bytes, least significant first, has their signed value. -/
theorem toInt_eq_signedLE {n : Nat} (v : BitVec n) (bs : List Byte) (hne : bs ≠ []) (hn : n = 8 * bs.length)
    (hv : v.toNat = bs.foldr (fun b acc => b.toNat + 256 * acc) 0) : v.toInt = signedLE bs := by
  have hpow : 2 ^ n = 256 ^ bs.length := by rw [hn, Nat.pow_mul]
  unfold signedLE
  rw [BitVec.toInt_eq_toNat_cond, hpow, hv, if_neg hne]
  push_cast
  rfl

/-- R57, R162: a displacement of 1, 2 or 4 bytes, from the bytes that the window holds at the cursor. -/
theorem readDisp_of_bytes (w bs : List Byte) (r : Regs) (hlen : bs.length = 1 ∨ bs.length = 2 ∨ bs.length = 4)
    (hpos : r.pos.val + bs.length ≤ 15) (hbs : (w.drop r.pos.val).take bs.length = bs) :
    readDisp w bs.length r = .ok { r.advance bs.length with dispRaw := signedLE bs } := by
  have hread {k : Nat} {b : Byte} (hb : bs[k]? = some b) : readByte w (r.advance k) = .ok (b, r.advance (k + 1)) :=
    readByte_advance hpos (hbs.symm ▸ hb)
  have hread0 {b : Byte} (hb : bs[0]? = some b) : readByte w r = .ok (b, r.advance 1) := by
    simpa using hread hb
  rcases hlen with h | h | h
  · obtain ⟨b0, rfl⟩ := List.length_eq_one_iff.mp h
    have hval : b0.toInt = signedLE [b0] := toInt_eq_signedLE _ _ (by simp) rfl (by simp)
    simp [readDisp, hread0 (b := b0) rfl, hval]
  · obtain ⟨b0, b1, rfl⟩ := List.length_eq_two.mp h
    have hval : (b1 ++ b0).toInt = signedLE [b0, b1] :=
      toInt_eq_signedLE _ _ (by simp) rfl (by simp [toNat_append_byte])
    simp [readDisp, hread0 (b := b0) rfl, hread (k := 1) (b := b1) rfl, hval]
  · obtain ⟨b0, b1, b2, b3, rfl⟩ := List.length_eq_four.mp h
    have hval : (b3 ++ b2 ++ b1 ++ b0).toInt = signedLE [b0, b1, b2, b3] :=
      toInt_eq_signedLE _ _ (by simp) rfl (by simp [toNat_append_byte])
    simp [readDisp, hread0 (b := b0) rfl, hread (k := 1) (b := b1) rfl, hread (k := 2) (b := b2) rfl,
      hread (k := 3) (b := b3) rfl, hval]

/-! ### The obligations -/

/-- Settles O32: no byte is read and `disp_raw` stays 0 at size 0; otherwise the bytes at the cursor are read in turn. -/
theorem displacementIsSignedLittleEndian : Obligations.DisplacementIsSignedLittleEndian := by
  intro w r size hsize hpos hlen hraw
  rcases hsize with rfl | hsize
  · simp [readDisp, signedLE, ← hraw]
  · have hbs : ((w.drop r.pos.val).take size).length = size := by
      rw [List.length_take, List.length_drop]; omega
    have h := readDisp_of_bytes w _ r (by rw [hbs]; exact hsize) (by rw [hbs]; exact hpos) (by rw [hbs])
    rw [hbs] at h
    exact h

/-- Settles O13: the window and the buffer agree byte by byte, and `avail` is the window's length. -/
theorem windowIsBufferFromStartOffset : Obligations.WindowIsBufferFromStartOffset := by
  intro s i hwf
  rw [State.begin_avail]
  refine ⟨fun hi => ⟨State.window_getElem? s hwf i, ?_⟩, fun hi => List.getElem?_eq_none hi⟩
  rw [List.getElem?_eq_getElem hi]
  exact Option.some_ne_none _

/-- Settles O14: the limit is tested before the end of the window (R53). -/
theorem readByteFollowsCursor : Obligations.ReadByteFollowsCursor := by
  intro w r
  refine ⟨fun hlim => ?_, fun hlt hend => ?_, fun hw hlt => ?_⟩
  · exact (readByte_eq_error w r _).mpr ((peekByte_eq_error w r _).mpr (.inl ⟨hlim, rfl⟩))
  · exact (readByte_eq_error w r _).mpr ((peekByte_eq_error w r _).mpr (.inr ⟨hlt, hend, rfl⟩))
  · exact ⟨{ r with pos := r.pos + 1 }, (readByte_eq_ok w r _ _).mpr ⟨hlt, List.getElem?_eq_getElem hw, rfl⟩, rfl,
      cursor_succ _ hlt⟩

end Sys2Proof.Machine
end

section
/-! Reading bytes that the window is known to hold (spec/20_memory.md R53): the bytes ahead of the cursor, and what each
operation of the decoder does on the bytes that the encoder writes for it. -/

namespace Sys2Proof.Machine

open Sys2Proof

/-! ### The bytes ahead -/

/-- R53: the window holds the bytes `bs` at cursor `p`, all of them within `MAX_LEN`. -/
structure Ahead (w : List Byte) (p : Fin 16) (bs : List Byte) : Prop where
  held : bs <+: w.drop p.val
  fits : p.val + bs.length ≤ 15

/-- R24: registers that agree in the cursor, and in all else, are equal. -/
theorem Regs.eq_of_pos {x y : Regs} (hpos : x.pos = y.pos) (h : { x with pos := 0 } = { y with pos := 0 }) : x = y := by
  obtain ⟨⟩ := x
  obtain ⟨⟩ := y
  cases hpos; cases h; rfl

/-- R55: two runs of reads are one. -/
theorem Regs.advance_advance (r : Regs) (j k : Nat) : (r.advance j).advance k = r.advance (j + k) := by
  refine Regs.eq_of_pos (Fin.ext ?_) rfl
  simp [Regs.advance, Nat.add_assoc]

/-- R55: registers that stand after the same two runs of reads, and agree in all but the cursor, are equal. -/
theorem Regs.eq_of_advance {x y : Regs} (r : Regs) (j k : Nat) (hx : x.pos = ((r.advance j).advance k).pos)
    (hy : y.pos = (r.advance (j + k)).pos) (h : { x with pos := 0 } = { y with pos := 0 }) : x = y :=
  Regs.eq_of_pos (by rw [hx, hy, Regs.advance_advance]) h

/-- R55: a run of no reads leaves the cursor. -/
theorem Regs.eq_advance_zero {x : Regs} (r : Regs) (hx : x.pos = (r.advance 0).pos)
    (h : { x with pos := 0 } = { r with pos := 0 }) : x = r :=
  Regs.eq_of_pos (by rw [hx, Regs.advance_zero]) h

/-- R53: one read is a run of one. -/
theorem Regs.advance_one (r : Regs) (h : r.pos.val < 15) : { r with pos := r.pos + 1 } = r.advance 1 := by
  simpa using r.advance_succ 0 h

/-- The bytes at the start of what is ahead are ahead. -/
theorem Ahead.left {w : List Byte} {p : Fin 16} {bs cs : List Byte} (h : Ahead w p (bs ++ cs)) : Ahead w p bs := by
  obtain ⟨hpre, hlen⟩ := h
  rw [List.length_append] at hlen
  exact ⟨(List.prefix_append bs cs).trans hpre, by omega⟩

/-- R53: once the first bytes ahead are read, the others are ahead. -/
theorem Ahead.right {w : List Byte} {r : Regs} {bs cs : List Byte} (h : Ahead w r.pos (bs ++ cs)) :
    Ahead w (r.advance bs.length).pos cs := by
  obtain ⟨⟨t, ht⟩, hlen⟩ := h
  rw [List.length_append] at hlen
  have hpos : (r.advance bs.length).pos.val = r.pos.val + bs.length := r.advance_pos _ (by omega)
  refine ⟨?_, by rw [hpos]; omega⟩
  rw [hpos, ← List.drop_drop, ← ht, List.append_assoc, List.drop_left]
  exact List.prefix_append cs t

/-- R53: once the first byte ahead is read, the others are ahead. -/
theorem Ahead.tail {w : List Byte} {r : Regs} {b : Byte} {bs : List Byte} (h : Ahead w r.pos (b :: bs)) :
    Ahead w (r.advance 1).pos bs := Ahead.right (bs := [b]) h

/-- R54: `PeekByte` gives the byte ahead. -/
theorem Ahead.peek {w : List Byte} {r : Regs} {b : Byte} {bs : List Byte} (h : Ahead w r.pos (b :: bs)) :
    peekByte w r = .ok b := by
  obtain ⟨⟨t, ht⟩, hlen⟩ := h
  rw [List.length_cons] at hlen
  refine (peekByte_eq_ok w r b).mpr ⟨by omega, ?_⟩
  rw [← List.head?_drop, ← ht]; rfl

/-- R53: `ReadByte` gives the byte ahead. -/
theorem Ahead.read {w : List Byte} {r : Regs} {b : Byte} {bs : List Byte} (h : Ahead w r.pos (b :: bs)) :
    readByte w r = .ok (b, r.advance 1) := by
  obtain ⟨hlt, hb⟩ := (peekByte_eq_ok w r b).mp h.peek
  exact (readByte_eq_ok w r _ b).mpr ⟨hlt, hb, (r.advance_one hlt).symm⟩

/-! ### The prefixes (spec/40_prefix_scanner.md R101 to R104) -/

/-- R102: what recording bytes one after another makes of `ps`. -/
def recordAll (bs : List Byte) (ps : PrefixState) : Option PrefixState := bs.foldlM (fun ps b => recordPrefix b ps) ps

/-- R102: recording in two parts. -/
theorem recordAll_append {bs cs : List Byte} {ps ps' : PrefixState} (h : recordAll bs ps = some ps') :
    recordAll (bs ++ cs) ps = recordAll cs ps' := by
  unfold recordAll at *
  rw [List.foldlM_append, h]; rfl

/-- R71: a segment override, or none, is recorded in `seg`. -/
theorem recordAll_encodeSeg (s : Option SegReg) (ps : PrefixState) (hseg : ps.seg = none) (hrex : ps.rex = none) :
    recordAll (encodeSeg s) ps = some { ps with seg := s } := by
  obtain ⟨⟩ := ps
  cases hseg; cases hrex
  cases s with
  | none => rfl
  | some x => cases x <;> rfl

/-- R71: 66, or its absence, is recorded in `opsize`. -/
theorem recordAll_opsize (b : Bool) (ps : PrefixState) (h : ps.opsize = false) (hrex : ps.rex = none) :
    recordAll (optByte b 0x66) ps = some { ps with opsize := b } := by
  obtain ⟨⟩ := ps
  cases h; cases hrex
  cases b <;> rfl

/-- R71: 67, or its absence, is recorded in `adsize`. -/
theorem recordAll_adsize (b : Bool) (ps : PrefixState) (h : ps.adsize = false) (hrex : ps.rex = none) :
    recordAll (optByte b 0x67) ps = some { ps with adsize := b } := by
  obtain ⟨⟩ := ps
  cases h; cases hrex
  cases b <;> rfl

/-- R71: F0, or its absence, is recorded in `lock`. -/
theorem recordAll_lock (b : Bool) (ps : PrefixState) (h : ps.lock = false) (hrex : ps.rex = none) :
    recordAll (optByte b 0xF0) ps = some { ps with lock := b } := by
  obtain ⟨⟩ := ps
  cases h; cases hrex
  cases b <;> rfl

/-- R71: F2 or F3, or neither, is recorded in `rep`. -/
theorem recordAll_encodeRep (x : Option Rep) (ps : PrefixState) (h : ps.rep = none) (hrex : ps.rex = none) :
    recordAll (encodeRep x) ps = some { ps with rep := x } := by
  obtain ⟨⟩ := ps
  cases h; cases hrex
  cases x with
  | none => rfl
  | some x => cases x <;> rfl

/-- R71: the bytes of the prefixes that the encoder writes, REX apart. -/
def prefixBytesOf (p : LegacyPrefix) : List Byte :=
  encodeSeg p.seg ++ optByte p.opsize 0x66 ++ optByte p.adsize 0x67 ++ optByte p.lock 0xF0 ++ encodeRep p.rep

/-- R25: `ps` after the prefixes `p`, REX apart. -/
def prefixesSeen (p : LegacyPrefix) : PrefixState :=
  { PrefixState.initial with seg := p.seg, opsize := p.opsize, adsize := p.adsize, lock := p.lock, rep := p.rep }

/-- R25: `ps` after the prefixes `p` and the REX byte. -/
def prefixesScanned (p : LegacyPrefix) : PrefixState :=
  { prefixesSeen p with rex := p.rex.map fun v => (4 : BitVec 4) ++ v }

/-- R71, R102: the bytes that the encoder writes for the prefixes are recorded as them. -/
theorem recordAll_prefixBytesOf (p : LegacyPrefix) :
    recordAll (prefixBytesOf p) PrefixState.initial = some (prefixesSeen p) := by
  have hseg := recordAll_encodeSeg p.seg PrefixState.initial rfl rfl
  have hop := (recordAll_append hseg).trans (recordAll_opsize p.opsize _ rfl rfl)
  have had := (recordAll_append hop).trans (recordAll_adsize p.adsize _ rfl rfl)
  have hlock := (recordAll_append had).trans (recordAll_lock p.lock _ rfl rfl)
  exact (recordAll_append hlock).trans (recordAll_encodeRep p.rep _ rfl rfl)

/-- R101: `prefixLoop` over a byte that is recorded. -/
theorem prefixLoop_record {order : RexOrder} {bt : Bitness} {w : List Byte} {n : Nat} {r : Regs} {b : Byte} {t : List Byte}
    {ps : PrefixState} (ha : Ahead w r.pos (b :: t)) (hps : recordPrefix b r.ps = some ps) :
    prefixLoop order bt w (n + 1) r = prefixLoop order bt w n { r.advance 1 with ps := ps } := by
  simp only [prefixLoop, ha.read, show (r.advance 1).ps = r.ps from rfl, hps]

/-- R101: `prefixLoop` over bytes that are recorded. -/
theorem prefixLoop_recordAll {order : RexOrder} {bt : Bitness} {w : List Byte} {n : Nat} {bs t : List Byte} :
    ∀ {r : Regs} {ps : PrefixState}, Ahead w r.pos (bs ++ t) → recordAll bs r.ps = some ps →
      prefixLoop order bt w (bs.length + n) r = prefixLoop order bt w n { r.advance bs.length with ps := ps } := by
  induction bs with
  | nil => rintro r ps - ⟨⟩; simp
  | cons b bs ih =>
    intro r ps ha hps
    obtain ⟨ps1, h1, h2⟩ : ∃ ps1, recordPrefix b r.ps = some ps1 ∧ recordAll bs ps1 = some ps := by
      simpa [recordAll, Option.bind_eq_some_iff] using hps
    rw [List.length_cons, Nat.add_right_comm, prefixLoop_record ha h1,
      ih (r := { r.advance 1 with ps := ps1 }) ha.tail h2, Nat.add_comm bs.length 1]
    exact congrArg _ (Regs.eq_of_advance r 1 bs.length rfl rfl rfl)

/-- R101, R105: a byte that ends the prefixes: none that is recorded, and no REX byte. -/
def endsPrefixes (b : Byte) : Prop := (∀ ps, recordPrefix b ps = none) ∧ b.extractLsb' 4 4 ≠ (4 : BitVec 4)

/-- R101: `prefixLoop` on a byte that ends the prefixes. -/
theorem prefixLoop_end {order : RexOrder} {bt : Bitness} {w : List Byte} {n : Nat} {r : Regs} {b : Byte} {t : List Byte}
    (ha : Ahead w r.pos (b :: t)) (hb : endsPrefixes b) :
    prefixLoop order bt w (n + 1) r = .ok { r.advance 1 with b0 := some b } := by
  have hrex : isRex bt b = false := by simp only [isRex, hb.2, decide_false, Bool.and_false]
  simp [prefixLoop, ha.read, hb.1, hrex]

/-- R72: a REX byte is not recorded as one of the legacy prefixes. -/
theorem recordPrefix_rexByte (v : BitVec 4) (ps : PrefixState) : recordPrefix ((4 : BitVec 4) ++ v) ps = none := by
  rw [recordPrefix_eq_none]; revert v; decide

/-- R72, R103, R105: a REX byte is one in 64-bit bitness. -/
theorem isRex_rexByte (v : BitVec 4) : isRex .b64 ((4 : BitVec 4) ++ v) = true := by revert v; decide

/-- R103: the registers after a REX byte is read. -/
def afterRex (v : BitVec 4) (r : Regs) : Regs := { r.advance 1 with ps := { r.ps with rex := some ((4 : BitVec 4) ++ v) } }

/-- R103: `prefixLoop` on the REX byte, where there is one, and the byte after it, under both settings of
`P_REX_ORDER`. -/
theorem prefixLoop_rex_end (order : RexOrder) {bt : Bitness} {w : List Byte} {n : Nat} {r : Regs} {rex : Option (BitVec 4)}
    {b : Byte} {t : List Byte} (ha : Ahead w r.pos (encodeRex rex ++ b :: t)) (hbt : rex.isSome = true → bt = .b64)
    (hb : endsPrefixes b) (hrex : r.ps.rex = none) :
    prefixLoop order bt w (n + 2) r =
      .ok { r.advance ((encodeRex rex).length + 1) with
              ps := { r.ps with rex := rex.map fun v => (4 : BitVec 4) ++ v }, b0 := some b } := by
  cases rex with
  | none =>
    rw [prefixLoop_end ha hb, Option.map_none, ← hrex]; rfl
  | some v =>
    cases hbt rfl
    have hx : (encodeRex (some v)).length + 1 = 1 + 1 := rfl
    have hnext : Ahead w (afterRex v r).pos (b :: t) := ha.tail
    rw [prefixLoop, ha.read, hx]
    simp only [recordPrefix_rexByte, isRex_rexByte, if_true]
    cases order with
    | Architectural =>
      exact (prefixLoop_end (r := afterRex v r) hnext hb).trans (congrArg _ (Regs.eq_of_advance r 1 1 rfl rfl rfl))
    | DocLiteral =>
      dsimp only
      split
      · rename_i st h
        cases h.symm.trans hnext.read
      · rename_i c r2 h
        cases h.symm.trans hnext.read
        exact congrArg _ (Regs.eq_of_advance r 1 1 rfl rfl rfl)

/-- R104: the registers after the prefixes `p`, the REX byte and the byte `b` that ends them. -/
def prefixesRead (p : LegacyPrefix) (b : Byte) : Regs :=
  { Regs.initial.advance ((prefixBytesOf p).length + (encodeRex p.rex).length + 1) with
      ps := prefixesScanned p, b0 := some b }

/-- R53: after the prefixes and the byte that ends them, the bytes that follow are ahead. -/
theorem Ahead.prefixesRead {w : List Byte} {p : LegacyPrefix} {b : Byte} {t : List Byte}
    (ha : Ahead w 0 (prefixBytesOf p ++ (encodeRex p.rex ++ b :: t))) : Ahead w (prefixesRead p b).pos t := by
  have h : Ahead w _ t := (Ahead.right (Ahead.right (r := Regs.initial) ha)).tail
  rwa [Regs.advance_advance, Regs.advance_advance] at h

/-- R100 to R105: `prefixLoop` on the prefixes that the encoder writes and the byte after them. -/
theorem prefixLoop_encoded (order : RexOrder) {bt : Bitness} {w : List Byte} {p : LegacyPrefix} {b : Byte} {t : List Byte}
    (ha : Ahead w 0 (prefixBytesOf p ++ (encodeRex p.rex ++ b :: t))) (hbt : p.rex.isSome = true → bt = .b64)
    (hb : endsPrefixes b) :
    prefixLoop order bt w (Config.maxLen + 1) Regs.initial = .ok (prefixesRead p b) := by
  obtain ⟨n, hn⟩ : ∃ n, Config.maxLen + 1 = (prefixBytesOf p).length + (n + 2) := by
    have hlen := ha.fits
    simp only [List.length_append, List.length_cons] at hlen
    exact ⟨14 - (prefixBytesOf p).length, by unfold Config.maxLen; omega⟩
  rw [hn, prefixLoop_recordAll (r := Regs.initial) ha (recordAll_prefixBytesOf p),
    prefixLoop_rex_end (r := { Regs.initial.advance _ with ps := prefixesSeen p }) order
      (Ahead.right (r := Regs.initial) ha) hbt hb rfl]
  exact congrArg _ (Regs.eq_of_advance _ _ _ rfl rfl rfl)

end Sys2Proof.Machine
end

section
/-! The selection of a row by its own key (spec/41_opcode_table_walker.md R132 to R139): what the rows that share a lookup
key, and those of one family, have in common. -/

namespace Sys2Proof.Machine

open Sys2Proof

/-! ### The rows of one key, and of one family -/

/-- R132: whether two rows have the same lookup key. -/
def Row.sameKey (x y : Row) : Bool := y.keyIs x.space x.map x.mp x.opcode

/-- R135, R136: whether one selection leaves both rows: the same key and digit, and a W that selects both. -/
def Row.sameFamily (x y : Row) : Bool :=
  x.sameKey y && decide (x.digit = y.digit) && [false, true].any fun W => x.w.admits W && y.w.admits W

/-- R141: a property that is checked on the table's list holds of every Code. -/
theorem forall_code {p : Code → Bool} (h : allCodes.all p = true) (c : Code) : p c = true :=
  List.all_eq_true.mp h c (mem_allCodes c)

/-- R134, R135, R138, R139: what two rows of one key have in common (a digit, or a ModRM byte, in both or in neither), and
two of one family (the shape, but no vector length unless they are one row). -/
def pairChecked (c d : Code) : Bool :=
  (!(row c).sameKey (row d) ||
    (decide ((row d).digit.isSome = (row c).digit.isSome) && decide ((row d).shape = .NONE ↔ (row c).shape = .NONE))) &&
  (!(row c).sameFamily (row d) ||
    (decide ((row d).shape = (row c).shape) && decide ((row d).vl = (row c).vl → d = c)))

/-- R135, R141: what the rows of each space are: the map of a legacy or VEX row is 0F, and neither looks at W; an EVEX row
has a ModRM byte; and a row without a ModRM byte has no digit. -/
def rowChecked (c : Code) : Bool :=
  (match (row c).space with
    | .Legacy => decide ((row c).map = .m0F ∧ (row c).vl = 0 ∧ (row c).w = .WIG ∧ (row c).opcode ≠ 0x38 ∧
        (row c).opcode ≠ 0x3A)
    | .VEX => decide ((row c).map = .m0F ∧ ((row c).vl = 128 ∨ (row c).vl = 256) ∧ (row c).w = .WIG)
    | .EVEX => decide ((row c).shape ≠ .NONE ∧ ((row c).vl = 128 ∨ (row c).vl = 256 ∨ (row c).vl = 512))) &&
  decide ((row c).shape = .NONE → (row c).digit = none)

/-- R141: the table passes both checks. -/
theorem table_checked : (allCodes.all fun c => rowChecked c && allCodes.all fun d => pairChecked c d) = true := by
  decide +kernel

/-- R141: every row passes its check. -/
theorem rowChecked_eq_true (c : Code) : rowChecked c = true :=
  (Bool.and_eq_true_iff.mp (forall_code table_checked c)).1

/-- R141: every two rows pass their check. -/
theorem pairChecked_eq_true (c d : Code) : pairChecked c d = true :=
  forall_code (Bool.and_eq_true_iff.mp (forall_code table_checked c)).2 d

/-- R134, R135: the rows of one key all have a digit or none has, and all have a ModRM byte or none has. -/
theorem row_of_sameKey (c d : Code) (h : (row c).sameKey (row d) = true) :
    (row d).digit.isSome = (row c).digit.isSome ∧ ((row d).shape = .NONE ↔ (row c).shape = .NONE) := by
  have hpair := (Bool.and_eq_true_iff.mp (pairChecked_eq_true c d)).1
  simpa [h] using hpair

/-- R138, R139: the rows of one family share their shape, and each has its own vector length. -/
theorem row_of_sameFamily (c d : Code) (h : (row c).sameFamily (row d) = true) :
    (row d).shape = (row c).shape ∧ ((row d).vl = (row c).vl → d = c) := by
  have hpair := (Bool.and_eq_true_iff.mp (pairChecked_eq_true c d)).2
  simpa [h, imp_iff_not_or] using hpair

/-! ### Looking a row up by its own key -/

/-- R132: the rows that have the key of row `c`. -/
def keyRows (c : Code) : List Code := lookup (row c).space (row c).map (row c).mp (row c).opcode

/-- R132: the rows that have the key of row `c`, one by one. -/
theorem mem_keyRows (c d : Code) : d ∈ keyRows c ↔ (row c).sameKey (row d) = true := by
  simp [keyRows, mem_lookup, Row.sameKey, Row.keyIs, and_assoc]

/-- R132: a row has its own key. -/
theorem self_mem_keyRows (c : Code) : c ∈ keyRows c := (mem_lookup ..).mpr ⟨rfl, rfl, rfl, rfl⟩

/-- R134: whether a ModRM byte follows is as the row's own shape says. -/
theorem needsModRM_keyRows (c : Code) : needsModRM (keyRows c) = decide ((row c).shape ≠ .NONE) := by
  rw [Bool.eq_iff_iff]
  simp only [needsModRM, List.any_eq_true, decide_eq_true_eq, mem_keyRows]
  constructor
  · rintro ⟨d, hd, hshape⟩
    exact fun h => hshape ((row_of_sameKey c d hd).2.mpr h)
  · exact fun h => ⟨c, (mem_keyRows c c).mp (self_mem_keyRows c), h⟩

/-- R135: of two rows of one key that a ModRM.reg leaves, the digits are equal. -/
theorem digit_eq_of_digitAdmits {c d : Code} {reg : Option (BitVec 3)} (hkey : (row c).sameKey (row d) = true)
    (hc : digitAdmits (row c).digit reg = true) (hd : digitAdmits (row d).digit reg = true) :
    (row c).digit = (row d).digit := by
  have hsome := (row_of_sameKey c d hkey).1
  unfold digitAdmits at hc hd
  cases h : (row c).digit with
  | none =>
    rw [h] at hsome
    exact (Option.not_isSome_iff_eq_none.mp (by simp [hsome])).symm
  | some x =>
    cases h' : (row d).digit with
    | none => simp [h, h'] at hsome
    | some y =>
      simp only [h, h', decide_eq_true_eq] at hc hd
      exact Option.some.inj (by rw [← hc, ← hd])

/-- R135, R136, R139, R198: the selection of row `c` by a ModRM.reg and a W that it admits: a family of the shape of `c`, in
which its vector length picks `c`. -/
theorem select_keyRows (c : Code) (reg : Option (BitVec 3)) (W : Bool) (hreg : digitAdmits (row c).digit reg = true)
    (hW : (row c).w.admits W = true) :
    ∃ f, select (keyRows c) reg W = some f ∧ codeOf f (row c).vl = some c ∧
      ∃ d, famRow (some f) = some (row d) ∧ (row d).shape = (row c).shape := by
  cases hsel : select (keyRows c) reg W with
  | none => exact absurd ⟨hreg, hW⟩ ((select_eq_none _ _ _).mp hsel c (self_mem_keyRows c))
  | some f =>
    obtain ⟨hne, hmem⟩ := select_eq_some _ _ _ _ hsel
    have hfam : ∀ d ∈ f, (row c).sameFamily (row d) = true := by
      intro d hd
      obtain ⟨hkey, hdigit, hw⟩ := (hmem d).mp hd
      rw [mem_keyRows] at hkey
      simp only [Row.sameFamily, hkey, digit_eq_of_digitAdmits hkey hreg hdigit, decide_true, Bool.true_and]
      exact List.any_eq_true.mpr ⟨W, by cases W <;> simp, by simp [hW, hw]⟩
    refine ⟨f, rfl, ?_, ?_⟩
    · cases hfind : codeOf f (row c).vl with
      | none =>
        have hc := List.find?_eq_none.mp hfind c ((hmem c).mpr ⟨self_mem_keyRows c, hreg, hW⟩)
        simp at hc
      | some d =>
        obtain ⟨hd, hvl⟩ := codeOf_eq_some f _ d hfind
        rw [(row_of_sameFamily c d (hfam d hd)).2 hvl]
    · cases f with
      | nil => exact absurd rfl hne
      | cons d ds => exact ⟨d, rfl, (row_of_sameFamily c d (hfam d (List.mem_cons_self ..))).1⟩

/-! ### The rows of each space -/

/-- R141: a legacy row is of map 0F, has no vector length and does not look at W. -/
theorem row_legacy (c : Code) (h : (row c).space = .Legacy) :
    (row c).map = .m0F ∧ (row c).vl = 0 ∧ (row c).w = .WIG ∧ (row c).opcode ≠ 0x38 ∧ (row c).opcode ≠ 0x3A := by
  have hrow := rowChecked_eq_true c
  simp only [rowChecked, h, Bool.and_eq_true, decide_eq_true_eq] at hrow
  exact hrow.1

/-- R141: a VEX row is of map 0F, has vector length 128 or 256 and does not look at W. -/
theorem row_vex (c : Code) (h : (row c).space = .VEX) :
    (row c).map = .m0F ∧ ((row c).vl = 128 ∨ (row c).vl = 256) ∧ (row c).w = .WIG := by
  have hrow := rowChecked_eq_true c
  simp only [rowChecked, h, Bool.and_eq_true, decide_eq_true_eq] at hrow
  exact hrow.1

/-- R141: an EVEX row has a ModRM byte and vector length 128, 256 or 512. -/
theorem row_evex (c : Code) (h : (row c).space = .EVEX) :
    (row c).shape ≠ .NONE ∧ ((row c).vl = 128 ∨ (row c).vl = 256 ∨ (row c).vl = 512) := by
  have hrow := rowChecked_eq_true c
  simp only [rowChecked, h, Bool.and_eq_true, decide_eq_true_eq] at hrow
  exact hrow.1

/-- R135: a row without a ModRM byte has no digit. -/
theorem digit_of_shape_none (c : Code) (h : (row c).shape = .NONE) : (row c).digit = none :=
  of_decide_eq_true (Bool.and_eq_true_iff.mp (rowChecked_eq_true c)).2 h

/-- R186: no row has a rounding form. -/
@[simp] theorem row_rounding (c : Code) : (row c).rounding = .none := tableForm_rounding c

end Sys2Proof.Machine
end

section
/-! Reading back the bytes before ModRM (spec/30_encoding.md R70 to R76): the payload bytes give back their fields, and the
scan of the prefixes, escape and opcode that the encoder writes ends in the `ps` of the instruction. -/

namespace Sys2Proof.Machine

open Sys2Proof

/-! ### The fields of the payload bytes -/

/-- R73 to R75: the fields of a payload byte of the layout `bit, ~vvvv, bit, pp`. -/
theorem vvvvByte_fields (a l : Bool) (v : BitVec 4) (pp : BitVec 2) :
    (BitVec.ofBool a ++ ~~~v ++ BitVec.ofBool l ++ pp : Byte).getLsbD 7 = a ∧
    ~~~((BitVec.ofBool a ++ ~~~v ++ BitVec.ofBool l ++ pp : Byte).extractLsb' 3 4) = v ∧
    (BitVec.ofBool a ++ ~~~v ++ BitVec.ofBool l ++ pp : Byte).getLsbD 2 = l ∧
    (BitVec.ofBool a ++ ~~~v ++ BitVec.ofBool l ++ pp : Byte).extractLsb' 0 2 = pp := by
  revert a l v pp; decide

/-- R74: the extension bits of byte 1 of VEX3. -/
theorem vex3Byte1_fields (m : OpMap) (p : VexPrefix) :
    (vex3Byte1 m p).getLsbD 7 = !p.R ∧ (vex3Byte1 m p).getLsbD 6 = !p.X ∧ (vex3Byte1 m p).getLsbD 5 = !p.B ∧
    vexMap ((vex3Byte1 m p).extractLsb' 0 5) = some m := by
  unfold vex3Byte1
  generalize p.R = R
  generalize p.X = X
  generalize p.B = B
  revert R X B
  cases m <;> decide

/-- R75: the extension bits of P0. -/
theorem evexByte0_fields (m : OpMap) (p : EvexPrefix) :
    (evexByte0 m p).getLsbD 7 = !p.R ∧ (evexByte0 m p).getLsbD 6 = !p.X ∧ (evexByte0 m p).getLsbD 5 = !p.B ∧
    (evexByte0 m p).getLsbD 4 = !p.Rp ∧ (evexByte0 m p).extractLsb' 2 2 = 0 ∧
    evexMap ((evexByte0 m p).extractLsb' 0 2) = some m := by
  unfold evexByte0
  generalize p.R = R
  generalize p.X = X
  generalize p.B = B
  generalize p.Rp = Rp
  revert R X B Rp
  cases m <;> decide

/-- R75: the fields of P2. -/
theorem evexByte2_fields (ll : BitVec 2) (p : EvexPrefix) :
    (evexByte2 ll p).getLsbD 7 = p.z ∧ (evexByte2 ll p).extractLsb' 5 2 = ll ∧ (evexByte2 ll p).getLsbD 4 = p.b ∧
    (evexByte2 ll p).getLsbD 3 = !p.Vp ∧ (evexByte2 ll p).extractLsb' 0 3 = p.aaa := by
  unfold evexByte2
  generalize p.z = z
  generalize p.b = b
  generalize p.Vp = Vp
  generalize p.aaa = aaa
  revert z ll b Vp aaa
  decide

/-- R107: the top two bits of byte 1 of VEX2 are 11 where R is 0 and vvvv names one of the first eight registers. -/
theorem vex2Byte1_top (mp : Mp) (L : Bool) (p : VexPrefix) (hR : p.R = false) (hv : p.vvvv.getLsbD 3 = false) :
    (vex2Byte1 mp L p).extractLsb' 6 2 = 3 := by
  unfold vex2Byte1
  generalize p.vvvv = v at *
  rw [hR]
  revert L v
  cases mp <;> decide

/-- R107: the top two bits of byte 1 of VEX3 are 11 where R and X are 0. -/
theorem vex3Byte1_top (m : OpMap) (p : VexPrefix) (hR : p.R = false) (hX : p.X = false) :
    (vex3Byte1 m p).extractLsb' 6 2 = 3 := by
  unfold vex3Byte1
  generalize p.B = B
  rw [hR, hX]
  revert B
  cases m <;> decide

/-- R107: the top two bits of P0 are 11 where R and X are 0. -/
theorem evexByte0_top (m : OpMap) (p : EvexPrefix) (hR : p.R = false) (hX : p.X = false) :
    (evexByte0 m p).extractLsb' 6 2 = 3 := by
  unfold evexByte0
  generalize p.B = B
  generalize p.Rp = Rp
  rw [hR, hX]
  revert B Rp
  cases m <;> decide

/-! ### The payloads (R111 to R117) -/

/-- R70, R110: the prefixes that may stand before an escape. -/
def escapePrefixes (seg : Option SegReg) (adsize : Bool) : LegacyPrefix :=
  { LegacyPrefix.none with seg := seg, adsize := adsize }

/-- R111, R117: the VEX2 payload gives the `ps` of the instruction. -/
theorem endPayload_vex2 (bt : Bitness) (mp : Mp) (L : Bool) (p : VexPrefix) (h2 : p.three = false) (hX : p.X = false)
    (hB : p.B = false) (hW : p.W = false) :
    endPayload bt (vex2State (vex2Byte1 mp L p) (prefixesScanned (escapePrefixes p.seg p.adsize))) =
      vexState bt .m0F mp L p := by
  obtain ⟨hR, hv, hL, hpp⟩ := vvvvByte_fields (!p.R) L p.vvvv (mpKeyBits mp)
  simp only [vex2State, vex2Byte1, hR, hv, hL, hpp, vexState, h2, hX, hB, hW, Bool.not_not]
  rfl

/-- R112, R113, R117: the VEX3 payload gives the `ps` of the instruction. -/
theorem endPayload_vex3 (bt : Bitness) (m : OpMap) (mp : Mp) (L : Bool) (p : VexPrefix) (h3 : p.three = true) :
    endPayload bt { vex3State (vex3Byte1 m p) (vex3Byte2 mp L p) (prefixesScanned (escapePrefixes p.seg p.adsize)) with
      map := some m } = vexState bt m mp L p := by
  obtain ⟨hR, hX, hB, -⟩ := vex3Byte1_fields m p
  obtain ⟨hW, hv, hL, hpp⟩ := vvvvByte_fields p.W L p.vvvv (mpKeyBits mp)
  simp only [vex3State, hR, hX, hB, vex3Byte2, hW, hv, hL, hpp, vexState, h3, Bool.not_not]
  rfl

/-- R114 to R117: the EVEX payload gives the `ps` of the instruction. -/
theorem endPayload_evex (bt : Bitness) (m : OpMap) (mp : Mp) (ll : BitVec 2) (p : EvexPrefix) :
    endPayload bt { evexState (evexByte0 m p) (evexByte1 mp p) (evexByte2 ll p)
      (prefixesScanned (escapePrefixes p.seg p.adsize)) with map := some m } = evexPrefixState bt m mp ll p := by
  obtain ⟨hR, hX, hB, hRp, -, -⟩ := evexByte0_fields m p
  obtain ⟨hW, hv, -, hpp⟩ := vvvvByte_fields p.W true p.vvvv (mpKeyBits mp)
  obtain ⟨hz, hll, hb, hVp, haaa⟩ := evexByte2_fields ll p
  have h1 : evexByte1 mp p = BitVec.ofBool p.W ++ ~~~p.vvvv ++ BitVec.ofBool true ++ mpKeyBits mp := rfl
  simp only [evexState, hR, hX, hB, hRp, h1, hW, hv, hpp, hz, hll, hb, hVp, haaa, evexPrefixState, Bool.not_not]
  rfl

/-- R115, R116: the fixed bits of the payload that the encoder writes. -/
theorem evexFixedOk_encoded (m : OpMap) (mp : Mp) (p : EvexPrefix) :
    evexFixedOk (evexByte0 m p) (evexByte1 mp p) = true := by
  obtain ⟨-, -, -, -, hfix, -⟩ := evexByte0_fields m p
  obtain ⟨-, -, hone, -⟩ := vvvvByte_fields p.W true p.vvvv (mpKeyBits mp)
  simp only [evexFixedOk, hfix, decide_true, Bool.true_and]
  exact hone

/-- R111: reading the VEX2 payload ahead. -/
theorem readVex2_ahead {bt : Bitness} {w : List Byte} {r : Regs} {p1 : Byte} {t : List Byte}
    (ha : Ahead w r.pos (p1 :: t)) :
    readVex2 bt w r = .ok { r.advance 1 with ps := endPayload bt (vex2State p1 r.ps) } := by
  simp only [readVex2, ha.read]; rfl

/-- R112, R113: reading the VEX3 payload ahead. -/
theorem readVex3_ahead {bt : Bitness} {w : List Byte} {r : Regs} {p1 p2 : Byte} {t : List Byte} {m : OpMap}
    (ha : Ahead w r.pos (p1 :: p2 :: t)) (hm : vexMap (p1.extractLsb' 0 5) = some m) :
    readVex3 bt w r = .ok { r.advance 2 with ps := endPayload bt { vex3State p1 p2 r.ps with map := some m } } := by
  simp only [readVex3, ha.read, ha.tail.read, hm, Regs.advance_advance]; rfl

/-- R114 to R116: reading the EVEX payload ahead. -/
theorem readEvex_ahead {bt : Bitness} {w : List Byte} {r : Regs} {P0 P1 P2 : Byte} {t : List Byte} {m : OpMap}
    (ha : Ahead w r.pos (P0 :: P1 :: P2 :: t)) (hfix : evexFixedOk P0 P1 = true)
    (hm : evexMap (P0.extractLsb' 0 2) = some m) :
    readEvex bt w r = .ok { r.advance 3 with ps := endPayload bt { evexState P0 P1 P2 r.ps with map := some m } } := by
  simp only [readEvex, ha.read, ha.tail.read, ha.tail.tail.read, hfix, hm]
  simp only [Regs.advance_advance]; rfl

/-! ### The scan of the prefixes and the opcode -/

/-- R71, R72: the encoder's escape bytes, and 0F, end the prefixes. -/
theorem endsPrefixes_of_mem {b : Byte} (h : b ∈ [(0x0F : Byte), 0xC5, 0xC4, 0x62]) : endsPrefixes b := by
  have hall : ∀ b ∈ [(0x0F : Byte), 0xC5, 0xC4, 0x62],
      b.toNat ∉ [0x26, 0x2E, 0x36, 0x3E, 0x64, 0x65, 0x66, 0x67, 0xF0, 0xF2, 0xF3] ∧ b.extractLsb' 4 4 ≠ (4 : BitVec 4) := by
    decide
  exact ⟨fun ps => (recordPrefix_eq_none b ps).mpr (hall b h).1, (hall b h).2⟩

/-- R106, R107: an escape byte is taken in 64-bit bitness, and elsewhere where the top bits of the byte after it are 11. -/
theorem escapeTaken_ahead {bt : Bitness} {w : List Byte} {r : Regs} {b q : Byte} {t : List Byte}
    (hb : isEscapeByte b = true) (ha : Ahead w r.pos (q :: t)) (hq : bt = .b64 ∨ q.extractLsb' 6 2 = 3) :
    escapeTaken bt w b r = .ok true := by
  cases bt <;> simp_all [escapeTaken, ha.peek]

/-- R106 to R110: `prefixScan` up to an escape byte. -/
theorem prefixScan_escape (order : RexOrder) {bt : Bitness} {w : List Byte} {seg : Option SegReg} {adsize : Bool}
    {b q : Byte} {t : List Byte} (ha : Ahead w 0 (prefixBytesOf (escapePrefixes seg adsize) ++ b :: q :: t))
    (hb : b ∈ [(0xC5 : Byte), 0xC4, 0x62]) (hq : bt = .b64 ∨ q.extractLsb' 6 2 = 3) :
    prefixScan order bt w Regs.initial = readEscape bt w b (prefixesRead (escapePrefixes seg adsize) b) := by
  have hloop := prefixLoop_encoded order (bt := bt) ha (fun h => by cases h)
    (endsPrefixes_of_mem (List.mem_cons_of_mem _ hb))
  have hesc : isEscapeByte b = true := by
    simp only [List.mem_cons, List.not_mem_nil, or_false] at hb
    obtain rfl | rfl | rfl := hb <;> rfl
  have hb0 : (prefixesRead (escapePrefixes seg adsize) b).b0.getD 0 = b := rfl
  have htaken := escapeTaken_ahead hesc (Ahead.prefixesRead (p := escapePrefixes seg adsize) ha) hq
  simp only [prefixScan, hloop, hb0, htaken]

/-- R130: the opcode byte after a VEX or EVEX payload. -/
theorem readOpcode_payload {w : List Byte} {r : Regs} {o : Byte} {t : List Byte} (ha : Ahead w r.pos (o :: t))
    (hs : r.ps.space ≠ .Legacy) : readOpcode w r = .ok { r.advance 1 with opc := some o } := by
  simp only [readOpcode, hs, if_false, ha.read]

/-- R130: the opcode byte of a legacy instruction of map 0F. -/
theorem readOpcode_legacy {w : List Byte} {r : Regs} {o : Byte} {t : List Byte} (ha : Ahead w r.pos (o :: t))
    (hs : r.ps.space = .Legacy) (hb : r.b0 = some 0x0F) (h38 : o ≠ 0x38) (h3A : o ≠ 0x3A) :
    readOpcode w r = .ok { r.advance 1 with ps := { r.ps with map := some .m0F }, opc := some o } := by
  rw [readOpcode, if_pos hs, if_pos hb]
  simp only [readLegacyOpcode, ha.read, h38, h3A, if_false]
  rfl

/-! ### The bytes before ModRM -/

/-- R210: the registers once the `n` bytes before ModRM are read: `ps`, the first byte after the prefixes and
the opcode byte. -/
def openedRegs (n : Nat) (ps : PrefixState) (b0 opc : Byte) : Regs :=
  { Regs.initial.advance n with ps := ps, b0 := some b0, opc := some opc }

/-- R130, R210: the scan of the bytes `bs` before ModRM, and the opcode's read, end in `ps` and the opcode
byte `opc`. -/
def Opens (order : RexOrder) (bt : Bitness) (w : List Byte) (bs : List Byte) (ps : PrefixState) (opc : Byte) : Prop :=
  ∃ r b0, prefixScan order bt w Regs.initial = .ok r ∧ readOpcode w r = .ok (openedRegs bs.length ps b0 opc)

/-- R118, R130: the end of a legacy scan does not look at the map. -/
theorem legacyEnd_map (ps : PrefixState) (m : Option OpMap) : { legacyEnd ps with map := m } = legacyEnd { ps with map := m } := by
  unfold legacyEnd
  cases ps.rex <;> rfl

/-- R70 to R72, R76: the bytes before ModRM of a legacy instruction of map 0F. -/
theorem opens_legacy (order : RexOrder) {bt : Bitness} {w : List Byte} {opc : Byte} {p : LegacyPrefix} {t : List Byte}
    (ha : Ahead w 0 (encodeLegacy .m0F opc p ++ t)) (hbt : p.rex.isSome = true → bt = .b64) (h38 : opc ≠ 0x38)
    (h3A : opc ≠ 0x3A) : Opens order bt w (encodeLegacy .m0F opc p) (legacyState .m0F p) opc := by
  have hbytes : encodeLegacy .m0F opc p ++ t = prefixBytesOf p ++ (encodeRex p.rex ++ 0x0F :: opc :: t) := by
    simp [encodeLegacy, prefixBytesOf]
  have hlen : (encodeLegacy .m0F opc p).length = (prefixBytesOf p).length + (encodeRex p.rex).length + 1 + 1 := by
    simp [encodeLegacy, prefixBytesOf]; omega
  rw [hbytes] at ha
  have hscan : prefixScan order bt w Regs.initial =
      .ok { prefixesRead p 0x0F with ps := legacyEnd (prefixesScanned p) } := by
    unfold prefixScan
    rw [prefixLoop_encoded order ha hbt (endsPrefixes_of_mem (List.mem_cons_self ..))]; rfl
  have hspace : (legacyEnd (prefixesScanned p)).space = .Legacy := by rw [legacyEnd_eq]
  have hopcode := readOpcode_legacy (r := { prefixesRead p 0x0F with ps := legacyEnd (prefixesScanned p) })
    (Ahead.prefixesRead ha) hspace rfl h38 h3A
  refine ⟨_, 0x0F, hscan, hopcode.trans ?_⟩
  rw [legacyEnd_map, hlen]
  exact congrArg _ (Regs.eq_of_advance Regs.initial _ 1 rfl rfl rfl)

/-- R110, R130: the bytes before ModRM of an instruction with an escape byte `b`, payload `q :: qs` and opcode `opc`, where
the payload gives `ps`. -/
theorem opens_escape (order : RexOrder) {bt : Bitness} {w : List Byte} {seg : Option SegReg} {adsize : Bool} {b q opc : Byte}
    {qs t : List Byte} {ps : PrefixState} (hb : b ∈ [(0xC5 : Byte), 0xC4, 0x62]) (hq : bt = .b64 ∨ q.extractLsb' 6 2 = 3)
    (hread : ∀ r : Regs, Ahead w r.pos (q :: (qs ++ opc :: t)) → r.ps = prefixesScanned (escapePrefixes seg adsize) →
      readEscape bt w b r = .ok { r.advance (q :: qs).length with ps := ps })
    (hspace : ps.space ≠ .Legacy)
    (ha : Ahead w 0 (encodeSeg seg ++ optByte adsize 0x67 ++ b :: q :: (qs ++ [opc]) ++ t)) :
    Opens order bt w (encodeSeg seg ++ optByte adsize 0x67 ++ b :: q :: (qs ++ [opc])) ps opc := by
  have hpre : prefixBytesOf (escapePrefixes seg adsize) = encodeSeg seg ++ optByte adsize 0x67 := by
    show encodeSeg seg ++ [] ++ optByte adsize 0x67 ++ [] ++ [] = _
    simp
  have hbytes : encodeSeg seg ++ optByte adsize 0x67 ++ b :: q :: (qs ++ [opc]) ++ t =
      prefixBytesOf (escapePrefixes seg adsize) ++ b :: (q :: qs ++ opc :: t) := by simp [hpre]
  have hlen : (encodeSeg seg ++ optByte adsize 0x67 ++ b :: q :: (qs ++ [opc])).length =
      (prefixBytesOf (escapePrefixes seg adsize)).length + 1 + (q :: qs).length + 1 := by simp [hpre]; omega
  rw [hbytes] at ha
  have hnext := Ahead.prefixesRead (p := escapePrefixes seg adsize) ha
  have hscan := (prefixScan_escape order ha hb hq).trans (hread _ hnext rfl)
  have hopcode := readOpcode_payload
    (r := { (prefixesRead (escapePrefixes seg adsize) b).advance (q :: qs).length with ps := ps }) hnext.right hspace
  refine ⟨_, b, hscan, hopcode.trans ?_⟩
  rw [hlen, Nat.add_assoc (_ + 1)]
  refine congrArg _ (Regs.eq_of_advance Regs.initial (_ + 1) (_ + 1) ?_ rfl rfl)
  rw [← Regs.advance_advance _ (q :: qs).length 1]; rfl

/-- R110: none of the prefixes that bar an escape is among those that the encoder writes before one. -/
theorem readEscape_encoded {bt : Bitness} {w : List Byte} {b : Byte} {r : Regs} {seg : Option SegReg} {adsize : Bool}
    (hr : r.ps = prefixesScanned (escapePrefixes seg adsize)) :
    readEscape bt w b r = if b = 0xC5 then readVex2 bt w r else if b = 0xC4 then readVex3 bt w r else readEvex bt w r := by
  have hbad : badBeforeEscape r.ps = false := by rw [hr]; rfl
  simp only [readEscape, hbad, Bool.false_eq_true, if_false]

/-- R73, R74, R107, R117: what the well-formedness of VEX fields says. -/
theorem VexPrefix.wf_iff (bt : Bitness) (p : VexPrefix) :
    p.wf bt = true ↔ (p.three = true ∨ (p.X = false ∧ p.B = false ∧ p.W = false)) ∧
      (bt = .b64 ∨ (p.R = false ∧ p.X = false ∧ p.B = false ∧ (p.three = true ∨ p.vvvv.getLsbD 3 = false))) := by
  simp [VexPrefix.wf, and_assoc]

/-- R75, R107, R117, R136: what the well-formedness of EVEX fields says. -/
theorem EvexPrefix.wf_iff (bt : Bitness) (w : WSel) (p : EvexPrefix) :
    p.wf bt w = true ↔ w.admits p.W = true ∧
      (bt = .b64 ∨ (p.R = false ∧ p.X = false ∧ p.B = false ∧ p.Rp = false)) := by
  simp [EvexPrefix.wf, and_assoc]

/-- R73, R74: the bytes before ModRM of a VEX instruction of map 0F. -/
theorem opens_vex (order : RexOrder) {bt : Bitness} {w : List Byte} {mp : Mp} {L : Bool} {opc : Byte} {p : VexPrefix}
    {t : List Byte} (hwf : p.wf bt = true) (ha : Ahead w 0 (encodeVex .m0F mp L opc p ++ t)) :
    Opens order bt w (encodeVex .m0F mp L opc p) (vexState bt .m0F mp L p) opc := by
  obtain ⟨hform, hbits⟩ := (VexPrefix.wf_iff bt p).mp hwf
  have hspace : (vexState bt .m0F mp L p).space ≠ .Legacy := by
    rw [vexState_eq]
    cases p.three <;> simp
  cases h : p.three with
  | true =>
    have hbytes : encodeVex .m0F mp L opc p = encodeSeg p.seg ++ optByte p.adsize 0x67 ++
        0xC4 :: vex3Byte1 .m0F p :: ([vex3Byte2 mp L p] ++ [opc]) := by simp [encodeVex, h]
    rw [hbytes] at ha ⊢
    have htop : bt = .b64 ∨ (vex3Byte1 .m0F p).extractLsb' 6 2 = 3 :=
      hbits.imp_right fun ⟨hR, hX, _⟩ => vex3Byte1_top _ p hR hX
    obtain ⟨-, -, -, hmap⟩ := vex3Byte1_fields .m0F p
    refine opens_escape order (by simp) htop ?_ hspace ha
    intro r hr hps
    rw [readEscape_encoded hps, if_neg (by decide), if_pos rfl, readVex3_ahead hr hmap, hps,
      endPayload_vex3 bt .m0F mp L p h]
    rfl
  | false =>
    obtain ⟨hX, hB, hW⟩ := hform.resolve_left (by simp [h])
    have hbytes : encodeVex .m0F mp L opc p = encodeSeg p.seg ++ optByte p.adsize 0x67 ++
        0xC5 :: vex2Byte1 mp L p :: ([] ++ [opc]) := by simp [encodeVex, h]
    rw [hbytes] at ha ⊢
    have htop : bt = .b64 ∨ (vex2Byte1 mp L p).extractLsb' 6 2 = 3 :=
      hbits.imp_right fun ⟨hR, _, _, hv⟩ => vex2Byte1_top mp L p hR (hv.resolve_left (by simp [h]))
    refine opens_escape order (by simp) htop ?_ hspace ha
    intro r hr hps
    rw [readEscape_encoded hps, if_pos rfl, readVex2_ahead hr, hps, endPayload_vex2 bt mp L p h hX hB hW]
    rfl

/-- R75: the bytes before ModRM of an EVEX instruction. -/
theorem opens_evex (order : RexOrder) {bt : Bitness} {w : List Byte} {m : OpMap} {mp : Mp} {ll : BitVec 2} {opc : Byte}
    {p : EvexPrefix} {t : List Byte} {sel : WSel} (hwf : p.wf bt sel = true)
    (ha : Ahead w 0 (encodeEvex m mp ll opc p ++ t)) :
    Opens order bt w (encodeEvex m mp ll opc p) (evexPrefixState bt m mp ll p) opc := by
  obtain ⟨-, hbits⟩ := (EvexPrefix.wf_iff bt sel p).mp hwf
  obtain ⟨-, -, -, -, -, hmap⟩ := evexByte0_fields m p
  have htop : bt = .b64 ∨ (evexByte0 m p).extractLsb' 6 2 = 3 :=
    hbits.imp_right fun ⟨hR, hX, _⟩ => evexByte0_top m p hR hX
  have hspace : (evexPrefixState bt m mp ll p).space ≠ .Legacy := by rw [evexPrefixState_eq]; simp
  refine opens_escape (qs := [evexByte1 mp p, evexByte2 ll p]) order (by simp) htop ?_ hspace ha
  intro r hr hps
  rw [readEscape_encoded hps, if_neg (by decide), if_neg (by decide),
    readEvex_ahead hr (evexFixedOk_encoded m mp p) hmap, hps, endPayload_evex]
  rfl

end Sys2Proof.Machine
end

section
/-! Reading back the bytes from ModRM on (spec/30_encoding.md R77 to R79): ModRM, SIB, displacement and imm8 as the encoder
writes them give back the operand that they stand for. -/

namespace Sys2Proof.Machine

open Sys2Proof Sys2Proof.Spec

/-! ### ModRM -/

/-- R77: the mod bits of an rm operand. -/
def RMOperand.modBits (rm : RMOperand) : BitVec 2 :=
  match rm with
  | .reg _ => 3
  | .mem mod _ _ _ => mod

/-- R78: the SIB byte of an rm operand. -/
def RMOperand.sibByte (rm : RMOperand) : Option Byte :=
  match rm with
  | .reg _ => none
  | .mem _ _ sib _ => sib

/-- R77: the ModRM byte. -/
def modrmByte (reg : BitVec 3) (rm : RMOperand) : Byte := RMOperand.modBits rm ++ reg ++ rm.field

/-- R78, R79: the bytes of an rm operand after ModRM. -/
def rmBytes (rm : RMOperand) : List Byte := (RMOperand.sibByte rm).toList ++ encodeDisp (rmDisp rm)

/-- R77 to R79: ModRM stands first. -/
theorem encodeRM_eq (reg : BitVec 3) (rm : RMOperand) : encodeRM reg rm = modrmByte reg rm :: rmBytes rm := by
  cases rm with
  | reg v => rfl
  | mem mod v sib d => simp [encodeRM, modrmByte, RMOperand.modBits, RMOperand.field, rmBytes, RMOperand.sibByte, rmDisp]

/-- R77: the fields of a ModRM byte. -/
theorem modrm_fields (mod : BitVec 2) (reg rm : BitVec 3) :
    modField (mod ++ reg ++ rm) = mod ∧ regField (mod ++ reg ++ rm) = reg ∧ rmField (mod ++ reg ++ rm) = rm := by
  revert mod reg rm; decide

@[simp] theorem modField_modrmByte (reg : BitVec 3) (rm : RMOperand) : modField (modrmByte reg rm) = RMOperand.modBits rm :=
  (modrm_fields _ _ _).1
@[simp] theorem regField_modrmByte (reg : BitVec 3) (rm : RMOperand) : regField (modrmByte reg rm) = reg :=
  (modrm_fields _ _ _).2.1
@[simp] theorem rmField_modrmByte (reg : BitVec 3) (rm : RMOperand) : rmField (modrmByte reg rm) = rm.field :=
  (modrm_fields _ _ _).2.2

/-- R77, R155, R157, R161: what the well-formedness of a memory operand says. -/
theorem RMOperand.wf_mem (as : AddrSize) (mod : BitVec 2) (v : BitVec 3) (sib : Option Byte) (d : Disp) :
    (RMOperand.mem mod v sib d).wf as = true ↔
      mod ≠ 3 ∧ sib.isSome = needsSib as v ∧ dispSize d = dispSizeOf as mod v sib := by
  simp [RMOperand.wf, and_assoc]

/-- R77, R182: a well-formed rm operand has mod = 11 where it is a register. -/
theorem RMOperand.modBits_eq_three {as : AddrSize} {rm : RMOperand} (h : rm.wf as = true) :
    RMOperand.modBits rm = 3 ↔ rm.isReg = true := by
  cases rm with
  | reg v => simp [RMOperand.modBits, RMOperand.isReg]
  | mem mod v sib d => simpa [RMOperand.modBits, RMOperand.isReg] using ((RMOperand.wf_mem as mod v sib d).mp h).1

/-! ### SIB, displacement, imm8 -/

/-- R157: reading the SIB byte ahead, where there is one. -/
theorem readSib_ahead {w : List Byte} {as : AddrSize} {v : BitVec 3} {r : Regs} {sib : Option Byte} {t : List Byte}
    (ha : Ahead w r.pos (sib.toList ++ t)) (hsib : sib.isSome = needsSib as v) (hr : r.sib = none) :
    readSib w as v r = .ok { r.advance sib.toList.length with sib := sib } := by
  unfold readSib
  cases sib with
  | none =>
    rw [← hsib, if_neg (by simp)]
    refine congrArg _ (Eq.symm ?_)
    exact Regs.eq_advance_zero r rfl (by rw [← hr]; rfl)
  | some b => simp only [← hsib, Option.isSome_some, if_true, ha.read]; rfl

/-- R57: the bytes of a displacement, least significant first, have its value. -/
theorem signedLE_encodeDisp (d : Disp) : signedLE (encodeDisp d) = dispRaw d := by
  cases d with
  | none => rfl
  | d8 v => exact (toInt_eq_signedLE v [v] (by simp) rfl (by simp)).symm
  | d16 v =>
    refine (toInt_eq_signedLE v [v.extractLsb' 0 8, v.extractLsb' 8 8] (by simp) rfl ?_).symm
    have := v.isLt
    simp [BitVec.extractLsb'_toNat, Nat.shiftRight_eq_div_pow]
    omega
  | d32 v =>
    refine (toInt_eq_signedLE v
      [v.extractLsb' 0 8, v.extractLsb' 8 8, v.extractLsb' 16 8, v.extractLsb' 24 8] (by simp) rfl ?_).symm
    have := v.isLt
    simp [BitVec.extractLsb'_toNat, Nat.shiftRight_eq_div_pow]
    omega

/-- R161: the bytes of a displacement are as many as its size says. -/
@[simp] theorem encodeDisp_length (d : Disp) : (encodeDisp d).length = dispSize d := by cases d <;> rfl

/-- R162: reading the displacement ahead. -/
theorem readDisp_ahead {w : List Byte} {r : Regs} {d : Disp} {t : List Byte} (ha : Ahead w r.pos (encodeDisp d ++ t))
    (hr : r.dispRaw = 0) :
    readDisp w (dispSize d) r = .ok { r.advance (encodeDisp d).length with dispRaw := dispRaw d } := by
  obtain ⟨hpre, hlen⟩ := ha.left
  have htake := (List.prefix_iff_eq_take.mp hpre).symm
  have hread := readDisp_of_bytes w (encodeDisp d) r
  rw [← signedLE_encodeDisp]
  cases d with
  | none =>
    rw [show signedLE (encodeDisp .none) = r.dispRaw from hr.symm]
    rw [show r.advance (encodeDisp .none).length = r from r.advance_zero]
    rfl
  | d8 v => exact hread (.inl rfl) hlen htake
  | d16 v => exact hread (.inr (.inl rfl)) hlen htake
  | d32 v => exact hread (.inr (.inr rfl)) hlen htake

/-- R167: reading the imm8 ahead, where there is one. -/
theorem readImm_ahead {w : List Byte} {has : Bool} {r : Regs} {b : Byte} {t : List Byte}
    (ha : Ahead w r.pos (optByte has b ++ t)) (hr : r.imm = none) :
    readImm w has r =
      .ok { r.advance (optByte has b).length with imm := if has then some b else none } := by
  unfold readImm
  cases has with
  | false =>
    rw [if_neg (by simp), if_neg (by simp), ← hr]
    exact congrArg _ (Regs.eq_advance_zero r rfl rfl).symm
  | true =>
    have hb : Ahead w r.pos (b :: t) := ha
    simp only [if_true, hb.read]; rfl

/-! ### The operands -/

/-- R26 to R28, R48: the operand-byte registers after ModRM at their initial values. -/
def Regs.fresh (r : Regs) : Prop :=
  r.sib = none ∧ r.md = none ∧ r.dispSize = 0 ∧ r.dispRaw = 0 ∧ r.imm = none

/-- R169: the registers after the SIB byte and the displacement of `rm` are read. -/
def afterRM (bt : Bitness) (rm : RMOperand) (r : Regs) : Regs :=
  { r.advance (rmBytes rm).length with
    sib := RMOperand.sibByte rm, md := rmWork bt r.ps rm, dispSize := dispSize (rmDisp rm), dispRaw := dispRaw (rmDisp rm) }

/-- R169: the registers after the imm8 is read, where there is one. -/
def afterImm (has : Bool) (b : Byte) (r : Regs) : Regs :=
  { r.advance (optByte has b).length with imm := if has then some b else none }

/-- R150: a register operand has no bytes after ModRM. -/
theorem afterRM_reg (bt : Bitness) (v : BitVec 3) (r : Regs) (h : r.fresh) : afterRM bt (.reg v) r = r := by
  obtain ⟨hsib, hmd, hsize, hraw, -⟩ := h
  refine Regs.eq_advance_zero r rfl ?_
  obtain ⟨⟩ := r
  cases hsib; cases hmd; cases hsize; cases hraw; rfl

/-- R151 to R162: reading the bytes of a memory operand ahead. -/
theorem readMemory_ahead {bt : Bitness} {w : List Byte} {r : Regs} {reg : BitVec 3} {mod : BitVec 2} {v : BitVec 3}
    {sib : Option Byte} {d : Disp} {t : List Byte} (ha : Ahead w r.pos (rmBytes (.mem mod v sib d) ++ t))
    (hwf : (RMOperand.mem mod v sib d).wf (addrSize bt r.ps.adsize) = true) (hr : r.fresh) :
    readMemory bt w (modrmByte reg (.mem mod v sib d)) r = .ok (afterRM bt (.mem mod v sib d) r) := by
  obtain ⟨-, hsib, hdisp⟩ := (RMOperand.wf_mem _ mod v sib d).mp hwf
  obtain ⟨hs, -, -, hraw, -⟩ := hr
  have ha' : Ahead w r.pos (sib.toList ++ (encodeDisp d ++ t)) := by
    rw [← List.append_assoc]; exact ha
  unfold readMemory
  simp only [rmField_modrmByte, modField_modrmByte, RMOperand.field, RMOperand.modBits, readSib_ahead ha' hsib hs]
  have hread := readDisp_ahead (r := { r.advance sib.toList.length with
    sib := sib, md := rmWork bt r.ps (.mem mod v sib d), dispSize := dispSize d }) ha'.right hraw
  rw [hdisp] at hread
  refine hread.trans ?_
  refine congrArg _ (Regs.eq_of_advance r sib.toList.length (encodeDisp d).length rfl ?_ ?_)
  · simp [afterRM, rmBytes, RMOperand.sibByte, rmDisp]
  · simp only [afterRM, RMOperand.sibByte, rmDisp, hdisp]; rfl

/-- R150, R153, R168: reading the operand bytes ahead, in a row whose shape has the rm operand. -/
theorem readOperands_ahead {bt : Bitness} {w : List Byte} {sh : Shape} {r : Regs} {reg : BitVec 3} {rm : RMOperand}
    {ib : Byte} {t : List Byte} (ha : Ahead w r.pos (rmBytes rm ++ (optByte sh.hasImm8 ib ++ t)))
    (hwf : rm.wf (addrSize bt r.ps.adsize) = true) (honly : sh.rmRegOnly = true → rm.isReg = true) (hr : r.fresh) :
    readOperands bt w (modrmByte reg rm) sh r = .ok (afterImm sh.hasImm8 ib (afterRM bt rm r)) := by
  have ⟨_, _, _, _, hnone⟩ := hr
  have himm : readImm w sh.hasImm8 (afterRM bt rm r) = .ok (afterImm sh.hasImm8 ib (afterRM bt rm r)) :=
    readImm_ahead (r := afterRM bt rm r) ha.right hnone
  unfold readOperands
  rw [modField_modrmByte]
  cases rm with
  | reg v =>
    rw [if_pos (show RMOperand.modBits (.reg v) = 3 from rfl)]
    rwa [afterRM_reg bt v r hr] at himm ⊢
  | mem mod v sib d =>
    have hmem : sh.rmRegOnly = false := by
      cases h : sh.rmRegOnly with
      | false => rfl
      | true => cases honly h
    rw [if_neg (show RMOperand.modBits (.mem mod v sib d) ≠ 3 from ((RMOperand.wf_mem _ mod v sib d).mp hwf).1), hmem]
    simp only [Bool.false_eq_true, if_false, readMemory_ahead ha hwf hr]
    exact himm

/-- R139, R198: a family of rows in which the vector length of row `c` picks `c`. -/
def Picks (c : Code) (f : List Code) : Prop :=
  codeOf f (row c).vl = some c ∧ (famRow (some f)).map Row.rounding = some .none

/-- R135, R139, R169: the ModRM state on the ModRM byte and the operand bytes of row `c` ahead: the family of `c` is
selected and the operand registers are filled. -/
theorem modrmState_ahead {bt : Bitness} {w : List Byte} {c : Code} {r : Regs} {reg : BitVec 3} {rm : RMOperand}
    {ib : Byte} {t : List Byte}
    (ha : Ahead w r.pos (encodeRM ((row c).digit.getD reg) rm ++ (optByte (row c).shape.hasImm8 ib ++ t)))
    (hentry : r.entry = some (keyRows c)) (hW : (row c).w.admits r.ps.W = true)
    (hwf : rm.wf (addrSize bt r.ps.adsize) = true) (honly : (row c).shape.rmRegOnly = true → rm.isReg = true)
    (hr : r.fresh) :
    ∃ f, Picks c f ∧
      modrmState bt w r = .ok (afterImm (row c).shape.hasImm8 ib (afterRM bt rm { r.advance 1 with
        modrm := some (modrmByte ((row c).digit.getD reg) rm), fam := some f })) := by
  have hreg : digitAdmits (row c).digit (some ((row c).digit.getD reg)) = true := by
    cases (row c).digit <;> simp [digitAdmits]
  obtain ⟨f, hsel, hcode, d, hrow, hshape⟩ := select_keyRows c _ r.ps.W hreg hW
  rw [encodeRM_eq] at ha
  refine ⟨f, ⟨hcode, by simp [hrow]⟩, ?_⟩
  have hsel' : select ((r.advance 1).entry.getD []) (some ((row c).digit.getD reg)) (r.advance 1).ps.W = some f := by
    show select (r.entry.getD []) _ _ = _
    rwa [hentry]
  unfold modrmState
  rw [Ahead.read ha]
  simp only [regField_modrmByte, hsel', hrow, hshape]
  exact readOperands_ahead (r := { r.advance 1 with
    modrm := some (modrmByte ((row c).digit.getD reg) rm), fam := some f }) ha.tail hwf honly hr

end Sys2Proof.Machine
end

section
/-! Decoding inverts encoding (spec/30_encoding.md R70 to R89): the registers that the decoder leaves on the bytes of a
well-formed instruction give back its Code, its operand fields and its length. -/

namespace Sys2Proof.Machine

open Sys2Proof

/-! ### An instruction from its Code and its operand fields -/

/-- R70, R138: `build` takes the fields that the row has, and no other. -/
theorem build_congr (c : Code) (f g : Bundle) (hlegacy : (row c).space = .Legacy → f.legacy = g.legacy)
    (hvex : (row c).space = .VEX → f.vex = g.vex) (hevex : (row c).space = .EVEX → f.evex = g.evex)
    (hreg : (row c).shape ≠ .NONE → (row c).digit = none → f.reg = g.reg) (hrm : (row c).shape ≠ .NONE → f.rm = g.rm)
    (himm : (row c).shape.hasImm8 = true → f.imm = g.imm) : build c f = build c g := by
  cases c <;> simp_all [build, row, Row.legacy, Row.vex, Row.evex, Shape.hasImm8]

/-- An instruction is built back from its Code and its operand fields. -/
theorem build_bundle (i : Instr) : build i.code i.bundle = i := by cases i <;> rfl

/-- A row without a ModRM byte has no imm8. -/
theorem hasImm8_of_shape_none {sh : Shape} (h : sh = .NONE) : sh.hasImm8 = false := by rw [h]; rfl

/-! ### What well-formedness says -/

/-- R53, R70 to R80: what the well-formedness of an instruction says. -/
theorem Instr.wf_iff (bt : Bitness) (i : Instr) :
    i.wf bt = true ↔ i.prefixWf bt = true ∧ i.bundle.rm.wf (addrSize bt i.adsize) = true ∧ i.bundle.legacy.lock = false ∧
      i.byteCount ≤ Config.maxLen := by
  simp [Instr.wf, and_assoc]

/-- R72, R118: what the well-formedness of legacy prefixes says. -/
theorem LegacyPrefix.wf_iff (bt : Bitness) (mp : Mp) (p : LegacyPrefix) :
    p.wf bt mp = true ↔ legacyMp p.rep p.opsize = mp ∧ (p.rex.isSome = true → bt = .b64) := by
  simp only [LegacyPrefix.wf, Bool.and_eq_true, decide_eq_true_eq, Bool.or_eq_true]
  cases p.rex <;> simp

/-- The prefixes of a legacy instruction are well formed. -/
theorem Instr.prefixWf_legacy {bt : Bitness} {i : Instr} (h : (row i.code).space = .Legacy) (hwf : i.prefixWf bt = true) :
    i.bundle.legacy.wf bt (row i.code).mp = true := by simpa [Instr.prefixWf, h] using hwf

/-- The prefixes of a VEX instruction are well formed. -/
theorem Instr.prefixWf_vex {bt : Bitness} {i : Instr} (h : (row i.code).space = .VEX) (hwf : i.prefixWf bt = true) :
    i.bundle.vex.wf bt = true := by simpa [Instr.prefixWf, h] using hwf

/-- R184: the prefixes of an EVEX instruction are well formed, and b is not set on a register form. -/
theorem Instr.prefixWf_evex {bt : Bitness} {i : Instr} (h : (row i.code).space = .EVEX) (hwf : i.prefixWf bt = true) :
    i.bundle.evex.wf bt (row i.code).w = true ∧ (i.bundle.rm.isReg && i.bundle.evex.b) = false := by
  simpa only [Instr.prefixWf, h, Bool.and_eq_true, Bool.not_eq_true'] using hwf

/-! ### The `ps` of an instruction -/

theorem instrState_legacy (bt : Bitness) {i : Instr} (h : (row i.code).space = .Legacy) :
    instrState bt i = legacyState (row i.code).map i.bundle.legacy := by simp [instrState, h]
theorem instrState_vex (bt : Bitness) {i : Instr} (h : (row i.code).space = .VEX) :
    instrState bt i = vexState bt (row i.code).map (row i.code).mp (decide ((row i.code).vl = 256)) i.bundle.vex := by
  simp [instrState, h]
theorem instrState_evex (bt : Bitness) {i : Instr} (h : (row i.code).space = .EVEX) :
    instrState bt i = evexPrefixState bt (row i.code).map (row i.code).mp (llOf (row i.code).vl) i.bundle.evex := by
  simp [instrState, h]

/-- R71: the 67 is in `ps`. -/
theorem instrState_adsize (bt : Bitness) (i : Instr) : (instrState bt i).adsize = i.adsize := by
  unfold Instr.adsize
  cases h : (row i.code).space with
  | Legacy => rw [instrState_legacy bt h, legacyState_eq]
  | VEX => rw [instrState_vex bt h, vexState_eq]
  | EVEX => rw [instrState_evex bt h, evexPrefixState_eq]

/-- R118, R119, R132: the lookup key of a well-formed instruction's `ps` is its row's. -/
theorem instrState_key {bt : Bitness} {i : Instr} (hwf : i.prefixWf bt = true) :
    tableSpace (instrState bt i).space = (row i.code).space ∧ (instrState bt i).map = some (row i.code).map ∧
      (instrState bt i).mp = (row i.code).mp := by
  cases h : (row i.code).space with
  | Legacy =>
    obtain ⟨hmp, -⟩ := (LegacyPrefix.wf_iff _ _ _).mp (Instr.prefixWf_legacy h hwf)
    rw [instrState_legacy bt h, legacyState_eq]
    exact ⟨rfl, rfl, hmp⟩
  | VEX =>
    rw [instrState_vex bt h, vexState_eq]
    exact ⟨by cases i.bundle.vex.three <;> rfl, rfl, ppMp_mpKeyBits _⟩
  | EVEX =>
    rw [instrState_evex bt h, evexPrefixState_eq]
    exact ⟨rfl, rfl, ppMp_mpKeyBits _⟩

/-- R136: a well-formed instruction has a W that its row admits. -/
theorem instrState_admits {bt : Bitness} {i : Instr} (hwf : i.prefixWf bt = true) :
    (row i.code).w.admits (instrState bt i).W = true := by
  cases h : (row i.code).space with
  | Legacy =>
    obtain ⟨-, -, hw, -⟩ := row_legacy _ h
    rw [hw]; rfl
  | VEX =>
    obtain ⟨-, -, hw⟩ := row_vex _ h
    rw [hw]; rfl
  | EVEX =>
    rw [instrState_evex bt h, evexPrefixState_eq]
    exact ((EvexPrefix.wf_iff _ _ _).mp (Instr.prefixWf_evex h hwf).1).1

/-- R133: no LOCK stands before a well-formed instruction. -/
theorem instrState_lock {bt : Bitness} {i : Instr} (hlock : i.bundle.legacy.lock = false) : (instrState bt i).lock = false := by
  cases h : (row i.code).space with
  | Legacy => rw [instrState_legacy bt h, legacyState_eq]; exact hlock
  | VEX => rw [instrState_vex bt h, vexState_eq]; rfl
  | EVEX => rw [instrState_evex bt h, evexPrefixState_eq]; rfl

/-- R72: the legacy prefixes are read back from `ps`. -/
theorem legacyOf_legacyState (m : OpMap) (p : LegacyPrefix) : legacyOf (legacyState m p) = p := by
  have hrex : ∀ v : BitVec 4, ((4 : BitVec 4) ++ v : Byte).extractLsb' 0 4 = v := by decide
  rw [legacyState_eq]
  obtain ⟨seg, opsize, adsize, lock, rep, rex⟩ := p
  cases rex with
  | none => rfl
  | some v => simp only [legacyOf, Option.map_some, hrex v]

/-- R73, R74, R117: well-formed VEX fields are read back from `ps`. -/
theorem vexOf_vexState {bt : Bitness} (m : OpMap) (mp : Mp) (L : Bool) {p : VexPrefix} (h : p.wf bt = true) :
    vexOf (vexState bt m mp L p) = p := by
  obtain ⟨-, hbits⟩ := (VexPrefix.wf_iff bt p).mp h
  have hthree : decide ((if p.three then Space.VEX3 else Space.VEX2) = .VEX3) = p.three := by cases p.three <;> rfl
  rw [vexState_eq]
  obtain rfl | ⟨hR, hX, hB, -⟩ := hbits
  · simp only [vexOf, hthree, decide_true, Bool.true_and]
  · simp only [vexOf, hthree, hR, hX, hB, Bool.and_false]
    obtain ⟨⟩ := p
    cases hR; cases hX; cases hB; rfl

/-- R75, R117: well-formed EVEX fields are read back from `ps`. -/
theorem evexOf_evexPrefixState {bt : Bitness} (m : OpMap) (mp : Mp) (ll : BitVec 2) {sel : WSel} {p : EvexPrefix}
    (h : p.wf bt sel = true) : evexOf (evexPrefixState bt m mp ll p) = p := by
  obtain ⟨-, hbits⟩ := (EvexPrefix.wf_iff bt sel p).mp h
  rw [evexPrefixState_eq]
  obtain rfl | ⟨hR, hX, hB, hRp⟩ := hbits
  · simp only [evexOf, decide_true, Bool.true_and]
  · simp only [evexOf, hR, hX, hB, hRp, Bool.and_false]
    obtain ⟨⟩ := p
    cases hR; cases hX; cases hB; cases hRp; rfl

/-- R180, R181, R183: the `ps` of a well-formed instruction gives the vector length of its row. -/
theorem vectorLength_instrState {bt : Bitness} {i : Instr} {regform : Bool}
    (hb : (row i.code).space = .EVEX → (regform && i.bundle.evex.b) = false) :
    vectorLength .none (instrState bt i) regform = some { vl := (row i.code).vl, rc := .None, sae := false } := by
  cases h : (row i.code).space with
  | Legacy =>
    obtain ⟨-, hvl, -⟩ := row_legacy _ h
    rw [instrState_legacy bt h, legacyState_eq, hvl]; rfl
  | VEX =>
    rw [instrState_vex bt h, vexState_eq]
    obtain ⟨-, hvl | hvl, -⟩ := row_vex _ h <;> cases i.bundle.vex.three <;> simp [vectorLength, hvl]
  | EVEX =>
    have hb := hb h
    rw [instrState_evex bt h, evexPrefixState_eq]
    obtain ⟨-, hvl | hvl | hvl⟩ := row_evex _ h <;> simp [vectorLength, hb, hvl, llOf]

/-! ### The number of bytes -/

@[simp] theorem optByte_length (b : Bool) (v : Byte) : (optByte b v).length = byteIf b := by cases b <;> rfl
@[simp] theorem encodeSeg_length (s : Option SegReg) : (encodeSeg s).length = byteIf s.isSome := by cases s <;> rfl
@[simp] theorem encodeRep_length (x : Option Rep) : (encodeRep x).length = byteIf x.isSome := by cases x <;> rfl
@[simp] theorem encodeRex_length (x : Option (BitVec 4)) : (encodeRex x).length = byteIf x.isSome := by cases x <;> rfl

/-- R77 to R79: ModRM, SIB and displacement are as many bytes as `RMOperand.byteCount` counts. -/
theorem encodeRM_length (reg : BitVec 3) (rm : RMOperand) : (encodeRM reg rm).length = rm.byteCount := by
  cases rm with
  | reg v => rfl
  | mem mod v sib d => cases sib <;> simp [encodeRM, RMOperand.byteCount, byteIf] <;> omega

/-- R70, R76: the bytes before ModRM of a legacy instruction are as many as `byteCount` counts. -/
theorem encodeLegacy_length (m : OpMap) (opc : Byte) (p : LegacyPrefix) : (encodeLegacy m opc p).length = p.byteCount m := by
  cases m <;> simp [encodeLegacy, LegacyPrefix.byteCount, Nat.add_assoc]

/-- R70, R73, R74: the bytes before ModRM of a VEX instruction are as many as `byteCount` counts. -/
theorem encodeVex_length (m : OpMap) (mp : Mp) (L : Bool) (opc : Byte) (p : VexPrefix) :
    (encodeVex m mp L opc p).length = p.byteCount := by
  cases h : p.three <;> simp [encodeVex, VexPrefix.byteCount, h, Nat.add_assoc]

/-- R70, R75: the bytes before ModRM of an EVEX instruction are as many as `byteCount` counts. -/
theorem encodeEvex_length (m : OpMap) (mp : Mp) (ll : BitVec 2) (opc : Byte) (p : EvexPrefix) :
    (encodeEvex m mp ll opc p).length = p.byteCount := by
  simp [encodeEvex, EvexPrefix.byteCount, Nat.add_assoc]

/-- R70: ModRM, SIB, displacement and imm8 are as many bytes as `byteCount` counts. -/
theorem encodeTail_length (x : Row) (f : Bundle) :
    (encodeTail x f).length = (if x.shape = .NONE then 0 else f.rm.byteCount) + byteIf x.shape.hasImm8 := by
  unfold encodeTail
  split <;> simp [encodeRM_length]

/-- R89: the encoder writes as many bytes as `Instr.byteCount` counts. -/
theorem encode_length (i : Instr) : (encode i).length = i.byteCount := by
  unfold encode Instr.byteCount encodeHead
  rw [List.length_append, encodeTail_length, ← Nat.add_assoc]
  cases (row i.code).space with
  | Legacy => rw [encodeLegacy_length]
  | VEX => rw [encodeVex_length]
  | EVEX => rw [encodeEvex_length]

/-! ### Reading an instruction back -/

/-- R70, R130: the bytes before ModRM of a well-formed instruction are read as its `ps` and opcode. -/
theorem opens_encodeHead (order : RexOrder) {bt : Bitness} {w : List Byte} {i : Instr} {t : List Byte}
    (hwf : i.prefixWf bt = true) (ha : Ahead w 0 (encodeHead (row i.code) i.bundle ++ t)) :
    Opens order bt w (encodeHead (row i.code) i.bundle) (instrState bt i) (row i.code).opcode := by
  cases h : (row i.code).space with
  | Legacy =>
    obtain ⟨hmap, -, -, h38, h3A⟩ := row_legacy _ h
    obtain ⟨-, hrex⟩ := (LegacyPrefix.wf_iff _ _ _).mp (Instr.prefixWf_legacy h hwf)
    simp only [instrState_legacy bt h, encodeHead, h, hmap] at ha ⊢
    exact opens_legacy order ha hrex h38 h3A
  | VEX =>
    simp only [instrState_vex bt h, encodeHead, h, (row_vex _ h).1] at ha ⊢
    exact opens_vex order (Instr.prefixWf_vex h hwf) ha
  | EVEX =>
    simp only [instrState_evex bt h, encodeHead, h] at ha ⊢
    exact opens_evex order (Instr.prefixWf_evex h hwf).1 ha

/-- R132, R133: the lookup on the key of a well-formed instruction gives the rows of its key, and its family at once where
no ModRM byte follows. -/
theorem lookupEntry_encoded {bt : Bitness} {i : Instr} {r : Regs} (hwf : i.prefixWf bt = true)
    (hlock : i.bundle.legacy.lock = false) (hps : r.ps = instrState bt i) (hopc : r.opc = some (row i.code).opcode) :
    ((row i.code).shape ≠ .NONE → lookupEntry r = .ok { r with entry := some (keyRows i.code) }) ∧
    ((row i.code).shape = .NONE → ∃ f, Picks i.code f ∧
      lookupEntry r = .ok { r with entry := some (keyRows i.code), fam := some f }) := by
  obtain ⟨hspace, hmap, hmp⟩ := instrState_key hwf
  have hentry : entryOf r = keyRows i.code := by
    simp only [entryOf, hps, hspace, hmap, hmp, hopc, Option.getD_some, keyRows]
  have hne : (keyRows i.code).isEmpty = false := by
    rw [List.isEmpty_eq_false_iff]
    exact List.ne_nil_of_mem (self_mem_keyRows _)
  have hnolock : r.ps.lock = false := by rw [hps]; exact instrState_lock hlock
  have hW : (row i.code).w.admits r.ps.W = true := by rw [hps]; exact instrState_admits hwf
  unfold lookupEntry
  simp only [hentry, hne, hnolock, Bool.and_false, Bool.false_eq_true, if_false, needsModRM_keyRows]
  refine ⟨fun hshape => by simp [hshape], fun hshape => ?_⟩
  have hdigit : digitAdmits (row i.code).digit none = true := by rw [digit_of_shape_none _ hshape]; rfl
  obtain ⟨f, hsel, hcode, d, hrow, -⟩ := select_keyRows i.code none r.ps.W hdigit hW
  exact ⟨f, ⟨hcode, by simp [hrow]⟩, by simp [hshape, hsel]⟩

/-- R70, R138: the registers `r` hold the operand fields that the row of `i` has. -/
def HoldsOperands (i : Instr) (r : Regs) : Prop :=
  ((row i.code).shape ≠ .NONE → regForm r = i.bundle.rm.isReg ∧ (bundleOf r).rm = i.bundle.rm ∧
    ((row i.code).digit = none → (bundleOf r).reg = i.bundle.reg)) ∧
  ((row i.code).shape.hasImm8 = true → (bundleOf r).imm = i.bundle.imm)

/-- R70, R89: the registers `r` hold a well-formed instruction: the cursor after its bytes, its `ps`, a family in which its
Code is picked, and the operand fields that its row has. -/
def Holds (bt : Bitness) (i : Instr) (r : Regs) : Prop :=
  r.pos.val = (encode i).length ∧ r.ps = instrState bt i ∧ (∃ f, r.fam = some f ∧ Picks i.code f) ∧ HoldsOperands i r

/-- R198: the Code of the instruction that the registers hold. -/
theorem Holds.pickCode_eq {bt : Bitness} {i : Instr} {r : Regs} (h : Holds bt i r) (hwf : i.prefixWf bt = true) :
    pickCode r = some i.code := by
  obtain ⟨-, hps, ⟨f, hf, hcode, hround⟩, hmodrm, -⟩ := h
  have hb : (row i.code).space = .EVEX → (regForm r && i.bundle.evex.b) = false := by
    intro hs
    obtain ⟨hshape, -⟩ := row_evex _ hs
    obtain ⟨hform, -⟩ := hmodrm hshape
    rw [hform]
    exact (Instr.prefixWf_evex hs hwf).2
  obtain ⟨x, hx, hxr⟩ := Option.map_eq_some_iff.mp hround
  simp only [pickCode, hf, hx, hxr, hps, vectorLength_instrState hb, Option.getD_some, hcode]

/-- R70: the instruction that the registers hold is built from them. -/
theorem Holds.build_eq {bt : Bitness} {i : Instr} {r : Regs} (h : Holds bt i r) (hwf : i.prefixWf bt = true) :
    build i.code (bundleOf r) = i := by
  obtain ⟨-, hps, -, hmodrm, himm⟩ := h
  refine (build_congr _ _ _ (fun hs => ?_) (fun hs => ?_) (fun hs => ?_) (fun hn hd => ?_) (fun hn => ?_) himm).trans
    (build_bundle i)
  · show legacyOf r.ps = _
    rw [hps, instrState_legacy bt hs, legacyOf_legacyState]
  · show vexOf r.ps = _
    rw [hps, instrState_vex bt hs, vexOf_vexState _ _ _ (Instr.prefixWf_vex hs hwf)]
  · show evexOf r.ps = _
    rw [hps, instrState_evex bt hs, evexOf_evexPrefixState _ _ _ (Instr.prefixWf_evex hs hwf).1]
  · obtain ⟨-, -, hreg⟩ := hmodrm hn
    exact hreg hd
  · obtain ⟨-, hrm, -⟩ := hmodrm hn
    exact hrm

/-- R48, R53: the cursor after a run of reads from the start. -/
theorem initial_advance_pos (n : Nat) (h : n ≤ 15) : (Regs.initial.advance n).pos.val = n :=
  (Regs.advance_pos Regs.initial n (by rw [show Regs.initial.pos.val = 0 from rfl]; omega)).trans (Nat.zero_add n)

/-- R132, R210: the registers after the opcode lookup on a well-formed instruction with a ModRM byte. -/
def lookedUp (bt : Bitness) (i : Instr) (b0 : Byte) : Regs :=
  { openedRegs (encodeHead (row i.code) i.bundle).length (instrState bt i) b0 (row i.code).opcode with
    entry := some (keyRows i.code) }

/-- R169, R210: the registers after the ModRM state on a well-formed instruction. -/
def operandsRead (bt : Bitness) (i : Instr) (b0 : Byte) (f : List Code) : Regs :=
  afterImm (row i.code).shape.hasImm8 i.bundle.imm (afterRM bt i.bundle.rm { (lookedUp bt i b0).advance 1 with
    modrm := some (modrmByte ((row i.code).digit.getD i.bundle.reg) i.bundle.rm), fam := some f })

/-- R134, R210: the registers after an instruction without a ModRM byte hold it. -/
theorem holds_lookedUp {bt : Bitness} {i : Instr} {b0 : Byte} {f : List Code} (hshape : (row i.code).shape = .NONE)
    (hlen : (encode i).length ≤ 15) (hpick : Picks i.code f) : Holds bt i { lookedUp bt i b0 with fam := some f } := by
  have htail : encodeTail (row i.code) i.bundle = [] := by
    rw [encodeTail, if_pos hshape, hasImm8_of_shape_none hshape]; rfl
  refine ⟨?_, rfl, ⟨f, rfl, hpick⟩, fun h => absurd hshape h, fun h => ?_⟩
  · rw [encode, htail, List.append_nil] at hlen ⊢
    exact initial_advance_pos _ hlen
  · rw [hasImm8_of_shape_none hshape] at h; cases h

/-- R27, R77 to R79: the rm operand is read back from the operand registers. -/
theorem rmOf_eq {as : AddrSize} {rm : RMOperand} {reg : BitVec 3} {r : Regs} (hwf : rm.wf as = true)
    (hmodrm : r.modrm = some (modrmByte reg rm)) (hsib : r.sib = RMOperand.sibByte rm)
    (hsize : r.dispSize = dispSize (rmDisp rm)) (hraw : r.dispRaw = dispRaw (rmDisp rm)) : rmOf r = rm := by
  simp only [rmOf, hmodrm, modField_modrmByte, rmField_modrmByte, hsib, hsize, hraw, dispOf_dispRaw]
  cases rm with
  | reg v => rfl
  | mem mod v sib d => exact if_neg ((RMOperand.wf_mem as mod v sib d).mp hwf).1

/-- R24, R169: the cursor after the operand bytes. -/
theorem operandsRead_pos {bt : Bitness} {i : Instr} {b0 : Byte} {f : List Code} (hshape : (row i.code).shape ≠ .NONE)
    (hlen : (encode i).length ≤ 15) : (operandsRead bt i b0 f).pos.val = (encode i).length := by
  have htotal : (encode i).length = (encodeHead (row i.code) i.bundle).length + 1 + (rmBytes i.bundle.rm).length +
      (optByte (row i.code).shape.hasImm8 i.bundle.imm).length := by
    simp only [encode, encodeTail, if_neg hshape, encodeRM_eq, List.length_append, List.length_cons]
    omega
  rw [htotal] at hlen ⊢
  rw [← initial_advance_pos _ hlen]
  simp only [← Regs.advance_advance]
  rfl

/-- R169, R210: the registers after the operand bytes of an instruction with a ModRM byte hold it. -/
theorem holds_operandsRead {bt : Bitness} {i : Instr} {b0 : Byte} {f : List Code}
    (hrm : i.bundle.rm.wf (addrSize bt i.adsize) = true) (hshape : (row i.code).shape ≠ .NONE)
    (hlen : (encode i).length ≤ 15) (hpick : Picks i.code f) : Holds bt i (operandsRead bt i b0 f) := by
  refine ⟨operandsRead_pos hshape hlen, rfl, ⟨f, rfl, hpick⟩, fun _ => ⟨?_, ?_, fun hdigit => ?_⟩, fun himm => ?_⟩
  · show decide (modField (modrmByte _ _) = 3) = _
    rw [modField_modrmByte, Bool.eq_iff_iff, decide_eq_true_eq, RMOperand.modBits_eq_three hrm]
  · exact rmOf_eq (r := operandsRead bt i b0 f) hrm rfl rfl rfl rfl
  · show regField (modrmByte _ _) = _
    rw [regField_modrmByte, hdigit]; rfl
  · show (if (row i.code).shape.hasImm8 then some i.bundle.imm else none).getD 0 = _
    rw [if_pos himm]; rfl

/-- R210: the scan in its parts: the prefixes, the opcode, the lookup, and ModRM where it follows. -/
theorem scanRegs_eq {order : RexOrder} {bt : Bitness} {w : List Byte} {r1 r2 r3 : Regs}
    (hscan : prefixScan order bt w Regs.initial = .ok r1) (hopc : readOpcode w r1 = .ok r2)
    (hlookup : lookupEntry r2 = .ok r3) :
    scanRegs order bt w = if needsModRM (r3.entry.getD []) then modrmState bt w r3 else .ok r3 := by
  simp only [scanRegs, opcodeLookup, hscan, hopc, hlookup]

/-- R70 to R89: the scan of the bytes of a well-formed instruction, whatever follows them, ends in registers that hold it. -/
theorem scanRegs_encode (order : RexOrder) {bt : Bitness} {i : Instr} (rest : List Byte) (hwf : i.wf bt = true) :
    ∃ r, scanRegs order bt (encode i ++ rest) = .ok r ∧ Holds bt i r := by
  obtain ⟨hpre, hrm, hlock, hcount⟩ := (Instr.wf_iff bt i).mp hwf
  have hlen : (encode i).length ≤ 15 := by rw [encode_length]; exact hcount
  have hahead : Ahead (encode i ++ rest) 0 (encodeHead (row i.code) i.bundle ++ encodeTail (row i.code) i.bundle) :=
    ⟨List.prefix_append _ _, by simpa [encode] using hlen⟩
  obtain ⟨r1, b0, hscan, hopc⟩ := opens_encodeHead order hpre hahead
  obtain ⟨hwith, hwithout⟩ := lookupEntry_encoded (bt := bt)
    (r := openedRegs (encodeHead (row i.code) i.bundle).length (instrState bt i) b0 (row i.code).opcode) hpre hlock rfl rfl
  have hneeds := needsModRM_keyRows i.code
  by_cases hshape : (row i.code).shape = .NONE
  · obtain ⟨f, hpick, hlookup⟩ := hwithout hshape
    refine ⟨{ lookedUp bt i b0 with fam := some f }, (scanRegs_eq hscan hopc hlookup).trans ?_,
      holds_lookedUp hshape hlen hpick⟩
    rw [Option.getD_some, hneeds, if_neg (by simp [hshape])]
    rfl
  · have htail : Ahead (encode i ++ rest) (lookedUp bt i b0).pos (encodeRM ((row i.code).digit.getD i.bundle.reg)
        i.bundle.rm ++ (optByte (row i.code).shape.hasImm8 i.bundle.imm ++ [])) := by
      have h := Ahead.right (r := Regs.initial) hahead
      rw [encodeTail, if_neg hshape] at h
      rwa [List.append_nil]
    have honly : (row i.code).shape.rmRegOnly = true → i.bundle.rm.isReg = true := by
      intro h
      rw [bundle_rm_of_regOnly i h]; rfl
    have hrm' : i.bundle.rm.wf (addrSize bt (instrState bt i).adsize) = true := by rwa [instrState_adsize]
    obtain ⟨f, hpick, hmodrm⟩ :=
      modrmState_ahead htail rfl (instrState_admits hpre) hrm' honly ⟨rfl, rfl, rfl, rfl, rfl⟩
    refine ⟨operandsRead bt i b0 f, (scanRegs_eq hscan hopc (hwith hshape)).trans ?_,
      holds_operandsRead hrm hshape hlen hpick⟩
    rw [Option.getD_some, hneeds, if_pos (by simp [hshape])]
    exact hmodrm

/-- R70 to R89: decoding inverts encoding: the bytes of a well-formed instruction, whatever follows them, decode to it, and
the cursor ends after them. -/
theorem decode_encode (order : RexOrder) {bt : Bitness} {i : Instr} (rest : List Byte) (hwf : i.wf bt = true) :
    ∃ r, decode order bt (encode i ++ rest) = .ok (i, r) ∧ r.pos.val = i.byteCount := by
  obtain ⟨r, hscan, hr⟩ := scanRegs_encode order rest hwf
  have hpre := ((Instr.wf_iff bt i).mp hwf).1
  exact ⟨r, (decode_eq_ok ..).mpr ⟨hscan, i.code, hr.pickCode_eq hpre, (hr.build_eq hpre).symm⟩,
    hr.1.trans (encode_length i)⟩

/-- R70 to R80: the bytes of a well-formed instruction, whatever follows them, decode to it. -/
theorem decodeInstr_encode (order : RexOrder) {bt : Bitness} {i : Instr} (rest : List Byte) (hwf : i.wf bt = true) :
    decodeInstr order bt (encode i ++ rest) = some i := by
  obtain ⟨r, hd, -⟩ := decode_encode order rest hwf
  exact (decodeInstr_eq_some ..).mpr ⟨r, hd⟩

/-! ### The obligations -/

/-- Settles O57: every well-formed instruction is read back. -/
theorem legacyEncodingRoundTrip : Obligations.LegacyEncodingRoundTrip :=
  fun _ order _ rest _ hwf => decodeInstr_encode order rest hwf

/-- Settles O58: every well-formed instruction is read back. -/
theorem vexEncodingRoundTrip : Obligations.VexEncodingRoundTrip :=
  fun _ order _ rest _ hwf => decodeInstr_encode order rest hwf

/-- Settles O59: every well-formed instruction is read back. -/
theorem evexEncodingRoundTrip : Obligations.EvexEncodingRoundTrip :=
  fun _ order _ rest _ hwf => decodeInstr_encode order rest hwf

end Sys2Proof.Machine
end

section
/-! A transaction on an encoded instruction (spec/44_assembler.md R212): a legal instruction passes the field checks, so
that the step ends in its record, whose length is the cursor after its bytes. -/

namespace Sys2Proof.Machine

open Sys2Proof

/-! ### The field checks of a legal instruction -/

/-- R193: the destination of a table form is a K register where the shape says so. -/
theorem tableForm_kDest (c : Code) : (tableForm c).kDest = decide ((row c).shape = .K_V_RM) := by
  unfold Form.kDest tableForm
  cases (row c).shape <;> rfl

/-- R189: what the legality of the vvvv field of an EVEX instruction says. -/
theorem Instr.vvvvLegal_evex {i : Instr} (h : (row i.code).space = .EVEX) :
    i.vvvvLegal = true ↔ (tableForm i.code).usesVvvv = true ∨ (i.bundle.evex.vvvv = 0 ∧ i.bundle.evex.Vp = false) := by
  simp [Instr.vvvvLegal, h]

/-- R187, R189, R191 to R193: what the legality of an EVEX instruction says. -/
theorem Instr.legal_evex {bt : Bitness} {i : Instr} (h : (row i.code).space = .EVEX) :
    i.legal bt = true ↔
      i.vvvvLegal = true ∧ i.bundle.evex.maskLegal (row i.code).mask = true ∧
      (i.bundle.evex.b = false ∨ (i.bundle.rm.isReg = false ∧ (row i.code).bcst.isSome = true)) ∧
      ((row i.code).shape ≠ .K_V_RM ∨ bt ≠ .b64 ∨ (i.bundle.evex.R = false ∧ i.bundle.evex.Rp = false)) := by
  simp only [Instr.legal, h, Bool.and_eq_true, Bool.or_eq_true, decide_eq_true_eq, Bool.not_eq_true', and_assoc, or_assoc]

/-- R191, R192: legal masking passes the three checks of masking. -/
theorem maskChecks_of_legal {m : MaskKind} {p : EvexPrefix} (h : p.maskLegal m = true) :
    (decide (m = .none) && (decide (p.aaa ≠ 0) || p.z)) = false ∧ (decide (m = .k1) && p.z) = false ∧
      (p.z && decide (p.aaa = 0)) = false := by
  cases m <;> cases hz : p.z <;> simp_all [EvexPrefix.maskLegal]

/-- R187 to R193: a legal EVEX instruction passes the field checks. -/
theorem evexFieldsBad_of_legal {bt : Bitness} {i : Instr} (h : (row i.code).space = .EVEX) (hlegal : i.legal bt = true) :
    evexFieldsBad (tableForm i.code) (instrState bt i) i.bundle.rm.isReg = false := by
  obtain ⟨hvvvv, hmask, hbcst, hkdest⟩ := (Instr.legal_evex h).mp hlegal
  obtain ⟨hnone, hk1, hz⟩ := maskChecks_of_legal hmask
  have hb : (!i.bundle.rm.isReg && i.bundle.evex.b && (row i.code).bcst.isNone) = false := by
    obtain hb | ⟨-, hb⟩ := hbcst
    · rw [hb, Bool.and_false, Bool.false_and]
    · rw [Option.isNone_eq_false_iff.mpr hb, Bool.and_false]
  have hv : (!(tableForm i.code).usesVvvv && (decide (i.bundle.evex.vvvv ≠ 0) || i.bundle.evex.Vp)) = false := by
    obtain hu | ⟨hv, hVp⟩ := (Instr.vvvvLegal_evex h).mp hvvvv
    · rw [hu]; rfl
    · rw [hv, hVp]; simp
  have hk : ((tableForm i.code).kDest && (decide (bt = .b64) && i.bundle.evex.R || decide (bt = .b64) && i.bundle.evex.Rp)) =
      false := by
    rw [tableForm_kDest]
    obtain hs | hbt | ⟨hR, hRp⟩ := hkdest
    · simp [hs]
    · simp [hbt]
    · simp [hR, hRp]
  rw [instrState_evex bt h, evexPrefixState_eq]
  show ((((((!i.bundle.rm.isReg && i.bundle.evex.b && (row i.code).bcst.isNone) || _) || _) || _) || _) || _) = false
  simp only [Bool.or_eq_false_iff]
  exact ⟨⟨⟨⟨⟨hb, hv⟩, hnone⟩, hk1⟩, hz⟩, hk⟩

/-- R183: L'L of a row's vector length is none of the reserved values. -/
theorem llOf_ne_three (vl : Nat) : llOf vl ≠ 3 := by
  unfold llOf
  split
  · decide
  · split <;> decide

/-- R189: what the legality of a VEX instruction says. -/
theorem Instr.legal_vex {bt : Bitness} {i : Instr} (h : (row i.code).space = .VEX) :
    i.legal bt = true ↔ (tableForm i.code).usesVvvv = true ∨ i.bundle.vex.vvvv = 0 := by
  simp [Instr.legal, Instr.vvvvLegal, h]

/-- R199: `VectorFieldDecode` raises nothing on a well-formed, legal instruction. -/
theorem instrFields_of_legal {i : Instr} {s : State} (hwf : i.prefixWf s.bitness = true) (hlegal : i.legal s.bitness = true) :
    ∃ vf, instrFields i s = .ok vf := by
  have hps : (instrPieces i s).ps = instrState s.bitness i := rfl
  have hmd : (instrPieces i s).md.isNone = i.bundle.rm.isReg := by
    show (rmWork _ _ i.bundle.rm).isNone = _
    cases i.bundle.rm <;> rfl
  unfold instrFields
  rw [hps, hmd]
  cases h : (row i.code).space with
  | Legacy =>
    exact ⟨_, vectorFieldDecode_legacy _ _ _ _ (by rw [instrState_legacy _ h, legacyState_eq]; rfl)⟩
  | VEX =>
    have hspace : (instrState s.bitness i).space = .VEX2 ∨ (instrState s.bitness i).space = .VEX3 := by
      rw [instrState_vex _ h, vexState_eq]
      cases i.bundle.vex.three <;> simp
    have hraw : (instrState s.bitness i).vvvvRaw = i.bundle.vex.vvvv := by rw [instrState_vex _ h, vexState_eq]
    rw [vectorFieldDecode_vex _ _ _ _ hspace, hraw, if_neg]
    · exact ⟨_, rfl⟩
    · obtain hu | hv := (Instr.legal_vex h).mp hlegal
      · simp [hu]
      · simp [hv]
  | EVEX =>
    have hspace : (instrState s.bitness i).space = .EVEX := by rw [instrState_evex _ h, evexPrefixState_eq]
    have hb : (instrState s.bitness i).b = i.bundle.evex.b := by rw [instrState_evex _ h, evexPrefixState_eq]
    have hLL : (instrState s.bitness i).LL = llOf (row i.code).vl := by rw [instrState_evex _ h, evexPrefixState_eq]
    rw [vectorFieldDecode_evex _ _ _ _ hspace (tableForm_rounding _), evexFieldsBad_of_legal h hlegal, hb,
      (Instr.prefixWf_evex h hwf).2, hLL, if_neg (by simpa using llOf_ne_three _)]
    exact ⟨_, rfl⟩

/-! ### The step -/

/-- R212: the Code of an assembled record. -/
@[simp] theorem assemble_code (f : Form) (p : Pieces) : (assemble f p).code = f.code :=
  (congrArg Instruction.code (assemble_eq f p)).trans rfl

/-- R199, R212: the meaning of a well-formed, legal instruction ends in a record of its Code, whose length is the cursor. -/
theorem exec_of_legal {i : Instr} {s : State} (hwf : i.wf s.bitness = true) (hlegal : i.legal s.bitness = true) :
    ∃ t r, exec i s = .next t ∧ t.result = .Ok r ∧ r.code = i.code ∧ r.byteLength = s.regs.pos := by
  obtain ⟨hpre, -, hlock, -⟩ := (Instr.wf_iff _ i).mp hwf
  obtain ⟨vf, hvf⟩ := instrFields_of_legal hpre hlegal
  rw [exec_eq_complete]
  obtain ⟨-, hl, -⟩ | ⟨e, he, -⟩ | ⟨vf', -, hd⟩ :=
    complete_cases (tableForm i.code) (instrPieces i s) s (instr_descriptorMatches i s)
  · exact absurd (hl.symm.trans (instrState_lock hlock)) (by simp)
  · cases he.symm.trans hvf
  · exact ⟨_, _, hd, rfl, assemble_code _ _, assemble_byteLength _ _⟩

/-- Settles O60: the window decodes to the instruction with the cursor after its bytes, and its meaning reports both. -/
theorem encodedInstructionReportsItsLength : Obligations.EncodedInstructionReportsItsLength := by
  intro i s rest hwf hlegal hwindow
  obtain ⟨r, hdecode, hpos⟩ := decode_encode s.rexOrder rest hwf
  rw [← hwindow] at hdecode
  obtain ⟨t, insn, hexec, hresult, hcode, hbytes⟩ := exec_of_legal (s := s.decoded r) hwf hlegal
  refine ⟨encode_length i, t, insn, (step_of_decode_ok s i r hdecode).trans hexec, hresult, hcode, ?_⟩
  rw [hbytes]
  exact hpos

end Sys2Proof.Machine
end

section
/-! Bytes written out (spec/30_encoding.md R72 to R79) and the bytes that the model chose for the table's keys (R82): each is
the encoding of a well-formed instruction, so that it decodes to it. -/

namespace Sys2Proof.Machine

open Sys2Proof

/-- R70 to R80: bytes that are the encoding of a well-formed instruction decode to it. -/
theorem decodeInstr_of_encode_eq (order : RexOrder) {bt : Bitness} {i : Instr} {w : List Byte} (hw : encode i = w)
    (hwf : i.wf bt = true) : decodeInstr order bt w = some i := by
  have h := decodeInstr_encode order [] hwf
  rwa [List.append_nil, hw] at h

/-- Settles O55: each word is the encoding of its instruction, which is well formed in its bitness. -/
theorem writtenWordsDecode : Obligations.WrittenWordsDecode :=
  ⟨decodeInstr_of_encode_eq .Architectural (by decide) (by decide),
    decodeInstr_of_encode_eq .Architectural (by decide) (by decide),
    decodeInstr_of_encode_eq .Architectural (by decide) (by decide),
    decodeInstr_of_encode_eq .Architectural (by decide) (by decide)⟩

/-- R82: the instruction whose bytes the model chose for the key of row `c` (assumption 5): the mandatory 66, F2 or F3, or the
payload, that the key asks for, every other field 0, and register 0 for the rm operand. -/
def keyInstr (c : Code) : Instr :=
  build c { Bundle.empty with
    legacy := { LegacyPrefix.none with
      opsize := decide ((row c).mp = .P66)
      rep := if (row c).mp = .PF2 then some .F2 else if (row c).mp = .PF3 then some .F3 else none }
    vex := { VexPrefix.none with three := true }
    evex := { EvexPrefix.none with W := decide ((row c).w = .W1) } }

/-- R82: the bytes that the model chose for the key of a row are the encoding of a well-formed instruction, and zeros. -/
theorem tableWordBytes_keyMatch (c : Code) :
    (keyInstr c).wf .b64 = true ∧ encode (keyInstr c) <+: tableWordBytes (row c).keyMatch.toNat := by
  have hall : (allCodes.all fun c => (keyInstr c).wf .b64 &&
      (encode (keyInstr c)).isPrefixOf (tableWordBytes (row c).keyMatch.toNat)) = true := by decide +kernel
  simpa using forall_code hall c

/-- Settles O56: the bytes of a key are those of an instruction of its row, which they decode to. -/
theorem tableKeysDecodeToTheirRow : Obligations.TableKeysDecodeToTheirRow := by
  intro c
  obtain ⟨hwf, rest, hrest⟩ := tableWordBytes_keyMatch c
  have hlt : ¬ 2 ^ 20 ≤ (row c).keyMatch.toNat := Nat.not_le.mpr (row c).keyMatch.isLt
  have hdecode : decodeTableWord 20 (row c).keyMatch.toNat = some (keyInstr c) := by
    rw [decodeTableWord, ← hrest, decodeInstr_encode Config.defaultRexOrder rest hwf]
    simpa using hlt
  rw [hdecode, Option.map_some, keyInstr, build_code]

end Sys2Proof.Machine
end

section
/-! The prefix scan on bytes that are written out (spec/40_prefix_scanner.md R101 to R110): the registers after each kind of
byte, as functions of the bytes before it, and the errors that follow from them. -/

namespace Sys2Proof.Machine

open Sys2Proof Sys2Proof.Spec

/-! ### The kinds of bytes -/

/-- R103, R105: what the loop takes as a REX byte. -/
theorem isRex_iff (bt : Bitness) (b : Byte) : isRex bt b = true ↔ bt = .b64 ∧ isRex4 b := by
  have hbits : b.extractLsb' 4 4 = (4 : BitVec 4) ↔ isRex4 b := by
    unfold isRex4
    revert b; decide
  simp only [isRex, Bool.and_eq_true, decide_eq_true_eq, hbits]

/-- R71: the bytes that are recorded are the legacy prefix bytes. -/
theorem recordPrefix_eq_none_iff (b : Byte) (ps : PrefixState) : recordPrefix b ps = none ↔ b ∉ prefixBytes := by
  have hmem : b ∈ prefixBytes ↔ b.toNat ∈ prefixBytes.map BitVec.toNat :=
    (List.mem_map_of_injective fun _ _ => BitVec.eq_of_toNat_eq).symm
  rw [recordPrefix_eq_none, hmem]; rfl

/-- R71, R72: a REX byte is no legacy prefix byte. -/
theorem notMem_prefixBytes_of_isRex4 {b : Byte} (h : isRex4 b) : b ∉ prefixBytes := by
  unfold isRex4 at h
  revert b; decide

/-- R71, R106: an escape byte is no legacy prefix byte and no REX byte. -/
theorem kind_of_escape {b : Byte} (h : b ∈ escapes) : b ∉ prefixBytes ∧ ¬ isRex4 b := by
  unfold isRex4
  revert b; decide

/-- R71, R106: neither a legacy prefix byte nor a REX byte is an escape byte or 0F. -/
theorem kind_of_prefix {b : Byte} (h : b ∈ prefixBytes ∨ isRex4 b) : b ∉ escapes ∧ b ≠ 0x0F := by
  unfold isRex4 at h
  revert b; decide

/-- R106, R107: the escape test asks for the escape bytes. -/
theorem isEscapeByte_iff (b : Byte) : isEscapeByte b = true ↔ b ∈ escapes := by
  simp [isEscapeByte, escapes, or_assoc]

/-- R107: bits [7:6] of the byte after an escape byte. -/
theorem topBits_iff (p : Byte) : p.extractLsb' 6 2 = 3 ↔ topSet p := by
  unfold topSet
  revert p; decide

/-! ### What is recorded (R102, R103) -/

/-- R102: one more byte adds what it names, if anything, after what the bytes before it named. -/
theorem lastOf_append_singleton {α : Type} (t : List (Byte × α)) (pre : List Byte) (b : Byte) :
    lastOf t (pre ++ [b]) = (t.lookup b).or (lastOf t pre) := by
  unfold lastOf
  rw [List.filterMap_append, List.getLast?_append]
  cases h : t.lookup b <;> simp [h]

/-- R102: after one more byte, each category holds what this byte names, or else what it held. -/
theorem scanned_append_singleton (pre : List Byte) (b : Byte) :
    scanned (pre ++ [b]) =
      { scanned pre with
        seg := (segments.lookup b).or (scanned pre).seg
        opsize := decide (b = 0x66) || (scanned pre).opsize
        adsize := decide (b = 0x67) || (scanned pre).adsize
        lock := decide (b = 0xF0) || (scanned pre).lock
        rep := (repeats.lookup b).or (scanned pre).rep } := by
  have hflag (x : Byte) : decide (x ∈ pre ++ [b]) = (decide (b = x) || decide (x ∈ pre)) := by
    simp [Bool.decide_or, or_comm, eq_comm]
  simp only [scanned, lastOf_append_singleton, hflag]

/-- R102: a legacy prefix byte is recorded in its own category. -/
theorem recordPrefix_eq_of_mem {b : Byte} (h : b ∈ prefixBytes) (ps : PrefixState) :
    recordPrefix b ps = some { ps with
      seg := (segments.lookup b).or ps.seg, opsize := decide (b = 0x66) || ps.opsize
      adsize := decide (b = 0x67) || ps.adsize, lock := decide (b = 0xF0) || ps.lock
      rep := (repeats.lookup b).or ps.rep, rex := none } := by
  simp only [prefixBytes, List.mem_cons, List.not_mem_nil, or_false] at h
  rcases h with rfl | rfl | rfl | rfl | rfl | rfl | rfl | rfl | rfl | rfl | rfl <;> rfl

/-- R103: recording a legacy prefix byte does not look at a pending REX byte. -/
theorem recordPrefix_of_rex {b : Byte} (h : b ∈ prefixBytes) (ps : PrefixState) (x : Option Byte) :
    recordPrefix b { ps with rex := x } = recordPrefix b ps := by
  rw [recordPrefix_eq_of_mem h, recordPrefix_eq_of_mem h]

/-- R102: a legacy prefix byte after the bytes `pre`. -/
theorem recordPrefix_scanned {b : Byte} (h : b ∈ prefixBytes) (pre : List Byte) :
    recordPrefix b (scanned pre) = some (scanned (pre ++ [b])) := by
  rw [recordPrefix_eq_of_mem h, scanned_append_singleton]; rfl

/-- R102: legacy prefix bytes after the bytes `pre`. -/
theorem recordAll_scanned {post : List Byte} (h : ∀ x ∈ post, x ∈ prefixBytes) (pre : List Byte) :
    recordAll post (scanned pre) = some (scanned (pre ++ post)) := by
  induction post generalizing pre with
  | nil => rw [List.append_nil]; rfl
  | cons b post ih =>
    obtain ⟨hb, hpost⟩ := List.forall_mem_cons.mp h
    have hrec := ih hpost (pre ++ [b])
    rw [List.append_assoc] at hrec
    simpa [recordAll, recordPrefix_scanned hb] using hrec

/-- R103: legacy prefix bytes after the bytes `pre` and a REX byte: the first of them drops the REX byte. -/
theorem recordAll_scanned_of_rex {post : List Byte} (h : ∀ x ∈ post, x ∈ prefixBytes) (hne : post ≠ []) (pre : List Byte)
    (x : Option Byte) : recordAll post { scanned pre with rex := x } = some (scanned (pre ++ post)) := by
  rw [← recordAll_scanned h pre]
  cases post with
  | nil => exact absurd rfl hne
  | cons b post =>
    simp only [recordAll, List.foldlM_cons, recordPrefix_of_rex (List.forall_mem_cons.mp h).1]

/-! ### The loop, byte by byte -/

/-- R24, R25: the registers in the prefix loop after `n` bytes, with prefix state `ps`. -/
def loopRegs (n : Nat) (ps : PrefixState) : Regs := { Regs.initial with pos := Fin.ofNat 16 n, ps := ps }

/-- R48: the loop starts with no byte read. -/
theorem loopRegs_zero : loopRegs 0 (scanned []) = Regs.initial := rfl

/-- R55: `k` more bytes. -/
theorem loopRegs_advance (n k : Nat) (ps ps' : PrefixState) :
    { (loopRegs n ps).advance k with ps := ps' } = loopRegs (n + k) ps' := by
  refine Regs.eq_of_pos (Fin.ext ?_) rfl
  simp [loopRegs, Regs.advance]

/-- R53: the bytes `bs` that stand in the window after `n` bytes, within `MAX_LEN`, are ahead of cursor `n`. -/
theorem Ahead.of_append {pre bs : List Byte} (rest : List Byte) (h : pre.length + bs.length ≤ 15) :
    Ahead (pre ++ (bs ++ rest)) (Fin.ofNat 16 pre.length) bs := by
  have hpos : (Fin.ofNat 16 pre.length).val = pre.length := Nat.mod_eq_of_lt (by omega)
  refine ⟨?_, by rw [hpos]; exact h⟩
  rw [hpos, List.drop_left]
  exact List.prefix_append bs rest

/-- R53: once the first `as.length` bytes ahead of cursor `n` are read, the others are ahead. -/
theorem Ahead.skip {w : List Byte} {n : Nat} {as bs : List Byte} (h : Ahead w (Fin.ofNat 16 n) (as ++ bs)) :
    Ahead w (Fin.ofNat 16 (n + as.length)) bs := by
  have hnext := Ahead.right (r := loopRegs n PrefixState.initial) h
  have hpos := congrArg Regs.pos (loopRegs_advance n as.length PrefixState.initial PrefixState.initial)
  exact hpos.subst (motive := fun p => Ahead w p bs) hnext

/-- R53: once the first byte ahead of cursor `n` is read, the others are ahead. -/
theorem Ahead.next {w : List Byte} {n : Nat} {b : Byte} {bs : List Byte} (h : Ahead w (Fin.ofNat 16 n) (b :: bs)) :
    Ahead w (Fin.ofNat 16 (n + 1)) bs := Ahead.skip (as := [b]) h

/-- R101: the loop over legacy prefix bytes ahead. -/
theorem prefixLoop_loopRegs_recordAll {order : RexOrder} {bt : Bitness} {w : List Byte} {n k : Nat} {ps ps' : PrefixState}
    {bs t : List Byte} (ha : Ahead w (Fin.ofNat 16 n) (bs ++ t)) (h : recordAll bs ps = some ps') :
    prefixLoop order bt w (bs.length + k) (loopRegs n ps) = prefixLoop order bt w k (loopRegs (n + bs.length) ps') := by
  rw [prefixLoop_recordAll (r := loopRegs n ps) ha h, loopRegs_advance]

/-- R101: the loop over legacy prefix bytes at the start of the window. -/
theorem prefixLoop_prefixBytes {order : RexOrder} {bt : Bitness} {pre rest : List Byte} {k : Nat}
    (hpre : ∀ x ∈ pre, x ∈ prefixBytes) (hlen : pre.length ≤ 15) :
    prefixLoop order bt (pre ++ rest) (pre.length + k) Regs.initial =
      prefixLoop order bt (pre ++ rest) k (loopRegs pre.length (scanned pre)) := by
  have ha : Ahead (pre ++ rest) (Fin.ofNat 16 0) (pre ++ []) := by
    rw [List.append_nil]
    exact Ahead.of_append (pre := []) rest (by simpa using hlen)
  rw [← loopRegs_zero, prefixLoop_loopRegs_recordAll ha (recordAll_scanned hpre []), Nat.zero_add, List.nil_append]

/-- R53: the byte ahead is read. -/
theorem readByte_loopRegs {w : List Byte} {n : Nat} {ps : PrefixState} {b : Byte} {t : List Byte}
    (ha : Ahead w (Fin.ofNat 16 n) (b :: t)) : readByte w (loopRegs n ps) = .ok (b, loopRegs (n + 1) ps) := by
  rw [Ahead.read (r := loopRegs n ps) ha, ← loopRegs_advance n 1 ps ps]; rfl

/-- R101, R105: the loop on a byte that is neither a legacy prefix byte nor, in 64-bit bitness, a REX byte. -/
theorem prefixLoop_other {order : RexOrder} {bt : Bitness} {w : List Byte} {n k : Nat} {ps : PrefixState} {b : Byte}
    {t : List Byte} (ha : Ahead w (Fin.ofNat 16 n) (b :: t)) (hb : b ∉ prefixBytes) (hrex : bt = .b64 → ¬ isRex4 b) :
    prefixLoop order bt w (k + 1) (loopRegs n ps) = loopEnd (n + 1) ps b := by
  have hnone : recordPrefix b (loopRegs (n + 1) ps).ps = none := (recordPrefix_eq_none_iff b _).mpr hb
  have hfalse : isRex bt b = false := by
    rw [Bool.eq_false_iff, ne_eq, isRex_iff]
    exact fun ⟨h64, h4⟩ => hrex h64 h4
  simp only [prefixLoop, readByte_loopRegs ha, hnone, hfalse]
  rfl

/-- R103: with `Architectural` order the loop holds a REX byte and goes on. -/
theorem prefixLoop_architectural_rex {w : List Byte} {n k : Nat} {ps : PrefixState} {rex : Byte} {t : List Byte}
    (ha : Ahead w (Fin.ofNat 16 n) (rex :: t)) (hrex : isRex4 rex) :
    prefixLoop .Architectural .b64 w (k + 1) (loopRegs n ps) =
      prefixLoop .Architectural .b64 w k (loopRegs (n + 1) { ps with rex := some rex }) := by
  have hnone : recordPrefix rex (loopRegs (n + 1) ps).ps = none :=
    (recordPrefix_eq_none_iff rex _).mpr (notMem_prefixBytes_of_isRex4 hrex)
  have htrue := (isRex_iff .b64 rex).mpr ⟨rfl, hrex⟩
  simp only [prefixLoop, readByte_loopRegs ha, hnone, htrue]
  rfl

/-- R103: with `DocLiteral` order the byte after a REX byte ends the loop, whatever it is. -/
theorem prefixLoop_docLiteral_rex {w : List Byte} {n k : Nat} {ps : PrefixState} {rex b : Byte} {t : List Byte}
    (ha : Ahead w (Fin.ofNat 16 n) (rex :: b :: t)) (hrex : isRex4 rex) :
    prefixLoop .DocLiteral .b64 w (k + 1) (loopRegs n ps) = loopEnd (n + 2) { ps with rex := some rex } b := by
  have hnone : recordPrefix rex (loopRegs (n + 1) ps).ps = none :=
    (recordPrefix_eq_none_iff rex _).mpr (notMem_prefixBytes_of_isRex4 hrex)
  have htrue := (isRex_iff .b64 rex).mpr ⟨rfl, hrex⟩
  have hnext : readByte w { loopRegs (n + 1) ps with ps := { (loopRegs (n + 1) ps).ps with rex := some rex } } =
      .ok (b, loopRegs (n + 2) { ps with rex := some rex }) :=
    readByte_loopRegs (n := n + 1) (ps := { ps with rex := some rex }) ha.next
  simp only [prefixLoop, readByte_loopRegs ha, hnone, htrue, if_true, hnext]
  rfl

/-- R53: `n + m` bytes leave the loop's bound on iterations unused. -/
theorem exists_fuel {n m : Nat} (h : n + m ≤ 16) : ∃ k, Config.maxLen + 1 = n + (k + m) :=
  ⟨16 - n - m, by unfold Config.maxLen; omega⟩

/-! ### The loop on legacy prefix bytes and what follows them -/

/-- R101, R102: legacy prefix bytes, then a byte that ends them. -/
theorem prefixLoop_prefixBytes_other (order : RexOrder) {bt : Bitness} {pre : List Byte} {b : Byte} (rest : List Byte)
    (hpre : ∀ x ∈ pre, x ∈ prefixBytes) (hlen : pre.length ≤ 14) (hb : b ∉ prefixBytes) (hrex : bt = .b64 → ¬ isRex4 b) :
    prefixLoop order bt (pre ++ b :: rest) (Config.maxLen + 1) Regs.initial = loopEnd (pre.length + 1) (scanned pre) b := by
  obtain ⟨k, hk⟩ := exists_fuel (n := pre.length) (m := 1) (by omega)
  have ha : Ahead (pre ++ b :: rest) (Fin.ofNat 16 pre.length) [b] := Ahead.of_append (bs := [b]) rest (by simp; omega)
  rw [hk, prefixLoop_prefixBytes hpre (by omega), prefixLoop_other ha hb hrex]

/-- R103: legacy prefix bytes, a REX byte, and a byte that ends them. -/
theorem prefixLoop_rex_other (order : RexOrder) {pre : List Byte} {rex b : Byte} (rest : List Byte)
    (hpre : ∀ x ∈ pre, x ∈ prefixBytes) (hlen : pre.length ≤ 13) (hrex : isRex4 rex) (hb : b ∉ prefixBytes)
    (hb4 : ¬ isRex4 b) :
    prefixLoop order .b64 (pre ++ rex :: b :: rest) (Config.maxLen + 1) Regs.initial =
      loopEnd (pre.length + 2) { scanned pre with rex := some rex } b := by
  obtain ⟨k, hk⟩ := exists_fuel (n := pre.length) (m := 2) (by omega)
  have ha : Ahead (pre ++ rex :: b :: rest) (Fin.ofNat 16 pre.length) [rex, b] :=
    Ahead.of_append (bs := [rex, b]) rest (by simp; omega)
  rw [hk, prefixLoop_prefixBytes hpre (by omega)]
  cases order with
  | Architectural =>
    rw [prefixLoop_architectural_rex ha hrex, prefixLoop_other ha.next hb fun _ => hb4]
  | DocLiteral => exact prefixLoop_docLiteral_rex ha hrex

/-- R103: with `DocLiteral` order any byte after the REX byte ends the loop. -/
theorem prefixLoop_docLiteral {pre : List Byte} {rex : Byte} (b : Byte) (rest : List Byte)
    (hpre : ∀ x ∈ pre, x ∈ prefixBytes) (hlen : pre.length ≤ 13) (hrex : isRex4 rex) :
    prefixLoop .DocLiteral .b64 (pre ++ rex :: b :: rest) (Config.maxLen + 1) Regs.initial =
      loopEnd (pre.length + 2) { scanned pre with rex := some rex } b := by
  obtain ⟨k, hk⟩ := exists_fuel (n := pre.length) (m := 1) (by omega)
  have ha : Ahead (pre ++ rex :: b :: rest) (Fin.ofNat 16 pre.length) [rex, b] :=
    Ahead.of_append (bs := [rex, b]) rest (by simp; omega)
  rw [hk, prefixLoop_prefixBytes hpre (by omega), prefixLoop_docLiteral_rex ha hrex]

/-- R103: with `Architectural` order legacy prefix bytes after the REX byte drop it. -/
theorem prefixLoop_rex_dropped {pre post : List Byte} {rex b : Byte} (rest : List Byte) (hpre : ∀ x ∈ pre, x ∈ prefixBytes)
    (hpost : ∀ x ∈ post, x ∈ prefixBytes) (hne : post ≠ []) (hlen : pre.length + post.length ≤ 13) (hrex : isRex4 rex)
    (hb : b ∉ prefixBytes) (hb4 : ¬ isRex4 b) :
    prefixLoop .Architectural .b64 (pre ++ rex :: (post ++ b :: rest)) (Config.maxLen + 1) Regs.initial =
      loopEnd (pre.length + post.length + 2) (scanned (pre ++ post)) b := by
  obtain ⟨k, hk⟩ := exists_fuel (n := pre.length) (m := post.length + 2) (by omega)
  have ha : Ahead (pre ++ rex :: (post ++ b :: rest)) (Fin.ofNat 16 pre.length) (rex :: (post ++ [b])) := by
    have h := Ahead.of_append (pre := pre) (bs := rex :: (post ++ [b])) rest (by simp; omega)
    simpa using h
  have hpast : Ahead (pre ++ rex :: (post ++ b :: rest)) (Fin.ofNat 16 (pre.length + 1)) (post ++ [b]) :=
    ha.next
  rw [hk, prefixLoop_prefixBytes hpre (by omega), show k + (post.length + 2) = post.length + (k + 1) + 1 by omega,
    prefixLoop_architectural_rex ha hrex, prefixLoop_loopRegs_recordAll hpast (recordAll_scanned_of_rex hpost hne pre _),
    prefixLoop_other hpast.skip hb fun _ => hb4, show pre.length + 1 + post.length + 1 = pre.length + post.length + 2 by omega]

/-- R103: with `Architectural` order a second REX byte takes the place of the first. -/
theorem prefixLoop_rex_replaced {pre : List Byte} {rex rex2 b : Byte} (rest : List Byte)
    (hpre : ∀ x ∈ pre, x ∈ prefixBytes) (hlen : pre.length ≤ 12) (hrex : isRex4 rex) (hrex2 : isRex4 rex2)
    (hb : b ∉ prefixBytes) (hb4 : ¬ isRex4 b) :
    prefixLoop .Architectural .b64 (pre ++ rex :: rex2 :: b :: rest) (Config.maxLen + 1) Regs.initial =
      loopEnd (pre.length + 3) { scanned pre with rex := some rex2 } b := by
  obtain ⟨k, hk⟩ := exists_fuel (n := pre.length) (m := 3) (by omega)
  have ha : Ahead (pre ++ rex :: rex2 :: b :: rest) (Fin.ofNat 16 pre.length) [rex, rex2, b] :=
    Ahead.of_append (bs := [rex, rex2, b]) rest (by simp; omega)
  rw [hk, prefixLoop_prefixBytes hpre (by omega), prefixLoop_architectural_rex ha hrex,
    prefixLoop_architectural_rex ha.next hrex2,
    prefixLoop_other ha.next.next hb fun _ => hb4]

/-- R101, R53: fifteen legacy prefix bytes leave no room for another byte. -/
theorem prefixLoop_fifteen (order : RexOrder) (bt : Bitness) {pre : List Byte} (rest : List Byte)
    (hpre : ∀ x ∈ pre, x ∈ prefixBytes) (hlen : pre.length = 15) :
    prefixLoop order bt (pre ++ rest) (Config.maxLen + 1) Regs.initial =
      raiseAt .InstructionTooLong (loopRegs 15 (scanned pre)) := by
  have hk : Config.maxLen + 1 = pre.length + 1 := by rw [hlen]; rfl
  have hread : readByte (pre ++ rest) (loopRegs 15 (scanned pre)) = raiseAt .InstructionTooLong (loopRegs 15 (scanned pre)) :=
    (readByteFollowsCursor _ _).1 (Nat.le_refl 15)
  rw [hk, prefixLoop_prefixBytes hpre (by omega), hlen]
  simp only [prefixLoop, hread, raiseAt]

/-! ### The escape test (R106 to R108) -/

/-- R106: a byte that is no escape byte is not taken as one. -/
theorem escapeTaken_of_notMem {bt : Bitness} {w : List Byte} {b : Byte} {r : Regs} (hb : b ∉ escapes) :
    escapeTaken bt w b r = .ok false := by
  have hesc : isEscapeByte b = false := by rwa [Bool.eq_false_iff, ne_eq, isEscapeByte_iff]
  simp only [escapeTaken, hesc, Bool.false_eq_true, if_false]

/-- R106: in 64-bit bitness an escape byte is taken as one. -/
theorem escapeTaken_b64 {w : List Byte} {b : Byte} {r : Regs} (hb : b ∈ escapes) : escapeTaken .b64 w b r = .ok true := by
  simp only [escapeTaken, (isEscapeByte_iff b).mpr hb, if_true]

/-- R107: outside 64-bit bitness the byte after an escape byte denies it where bits [7:6] are not 11. -/
theorem escapeTaken_denied {bt : Bitness} {w : List Byte} {b p : Byte} {r : Regs} (hbt : bt ≠ .b64) (hb : b ∈ escapes)
    (hpeek : peekByte w r = .ok p) (hp : ¬ topSet p) : escapeTaken bt w b r = .ok false := by
  rw [← topBits_iff] at hp
  have hesc := (isEscapeByte_iff b).mpr hb
  cases bt with
  | b64 => exact absurd rfl hbt
  | b16 | b32 => simp only [escapeTaken, hesc, if_true, hpeek, hp, decide_false]

/-- R108: outside 64-bit bitness the look-ahead raises the cursor errors. -/
theorem escapeTaken_error {bt : Bitness} {w : List Byte} {b : Byte} {r : Regs} {st : Stop} (hbt : bt ≠ .b64)
    (hb : b ∈ escapes) (hpeek : peekByte w r = .error st) : escapeTaken bt w b r = .error st := by
  have hesc := (isEscapeByte_iff b).mpr hb
  cases bt with
  | b64 => exact absurd rfl hbt
  | b16 | b32 => simp only [escapeTaken, hesc, if_true, hpeek]

/-! ### From the end of the loop to the decoder's error -/

/-- R123: the registers when the loop has ended: `n` bytes read, the last of them `b`. -/
def endRegs (n : Nat) (ps : PrefixState) (b : Byte) : Regs := { loopRegs n ps with b0 := some b }

/-- R55: the cursor when the loop has ended. -/
theorem endRegs_pos {n : Nat} (h : n ≤ 15) (ps : PrefixState) (b : Byte) : (endRegs n ps b).pos.val = n :=
  Nat.mod_eq_of_lt (by omega)

/-- R123: the loop's end, as the obligations write it. -/
theorem loopEnd_eq (n : Nat) (ps : PrefixState) (b : Byte) : loopEnd n ps b = .ok (endRegs n ps b) := rfl

section
variable {order : RexOrder} {bt : Bitness} {w : List Byte} {n : Nat} {ps : PrefixState} {b : Byte}

/-- R123: the scan where the byte that ended the loop is not taken as an escape. -/
theorem prefixScan_of_legacy (hloop : prefixLoop order bt w (Config.maxLen + 1) Regs.initial = loopEnd n ps b)
    (hesc : escapeTaken bt w b (endRegs n ps b) = .ok false) :
    prefixScan order bt w Regs.initial = .ok { endRegs n ps b with ps := legacyEnd ps } := by
  have hb : (endRegs n ps b).b0.getD 0 = b := rfl
  simp only [prefixScan, hloop, loopEnd_eq, hb, hesc]
  rfl

/-- R123: the scan where the byte that ended the loop is taken as an escape. -/
theorem prefixScan_of_escape (hloop : prefixLoop order bt w (Config.maxLen + 1) Regs.initial = loopEnd n ps b)
    (hesc : escapeTaken bt w b (endRegs n ps b) = .ok true) :
    prefixScan order bt w Regs.initial = readEscape bt w b (endRegs n ps b) := by
  have hb : (endRegs n ps b).b0.getD 0 = b := rfl
  simp only [prefixScan, hloop, loopEnd_eq, hb, hesc]

/-- R108, R123: the scan where the escape test raises. -/
theorem prefixScan_of_escape_error {st : Stop}
    (hloop : prefixLoop order bt w (Config.maxLen + 1) Regs.initial = loopEnd n ps b)
    (hesc : escapeTaken bt w b (endRegs n ps b) = .error st) : prefixScan order bt w Regs.initial = .error st := by
  have hb : (endRegs n ps b).b0.getD 0 = b := rfl
  simp only [prefixScan, hloop, loopEnd_eq, hb, hesc]

/-- R500: an error of the prefix scan is the decoder's. -/
theorem decodeErr_of_prefixScan {e : DecodeError} {r : Regs} (h : prefixScan order bt w Regs.initial = raiseAt e r) :
    decodeErr order bt w = some e := by
  simp only [decodeErr, decode, scanRegs, h, raiseAt]

/-- R131: a byte that is neither taken as an escape nor 0F is a one-byte opcode, which has no row. -/
theorem decodeErr_oneByte (hloop : prefixLoop order bt w (Config.maxLen + 1) Regs.initial = loopEnd n ps b)
    (hesc : escapeTaken bt w b (endRegs n ps b) = .ok false) (hb : b ≠ 0x0F) :
    decodeErr order bt w = some .UnknownOpcode := by
  have hspace : (legacyEnd ps).space = .Legacy := by rw [legacyEnd_eq]
  have hb0 : (endRegs n ps b).b0 ≠ some 0x0F := fun h => hb (Option.some.inj h)
  simp only [decodeErr, decode, scanRegs, prefixScan_of_legacy hloop hesc, opcodeLookup, readOpcode, hspace, if_true,
    if_neg hb0, raiseAt]

/-- R109, R110: a barred prefix before an escape is refused. -/
theorem decodeErr_barred (hloop : prefixLoop order bt w (Config.maxLen + 1) Regs.initial = loopEnd n ps b)
    (hesc : escapeTaken bt w b (endRegs n ps b) = .ok true) (hbad : badBeforeEscape ps = true) :
    decodeErr order bt w = some .InvalidVexEvexEncoding := by
  refine decodeErr_of_prefixScan (r := endRegs n ps b) ?_
  rw [prefixScan_of_escape hloop hesc, readEscape]
  exact if_pos hbad

end

/-! ### The obligations about prefix bytes -/

/-- Settles O15: the loop records each byte in its category, and the fifteenth byte is the last it may read. -/
theorem lastOfEachPrefixCategoryCounts : Obligations.LastOfEachPrefixCategoryCounts := by
  refine fun order bt pre rest hpre => ⟨fun b0 hlen hb hrex => ?_, fun hlen => ?_⟩
  · exact prefixLoop_prefixBytes_other order rest hpre hlen hb hrex
  · refine decodeErr_of_prefixScan (r := loopRegs 15 (scanned pre)) ?_
    simp only [prefixScan, prefixLoop_fifteen order bt rest hpre hlen, raiseAt]

/-- Settles O16: the four ways in which the loop goes on after a REX byte; the byte that `DocLiteral` order forces to be an
opcode is neither an escape byte nor 0F, so that it has no row. -/
theorem rexByteFollowsParameter : Obligations.RexByteFollowsParameter := by
  refine fun pre rest rex hpre hrex => ⟨?_, ?_, ?_, fun b hlen => ?_⟩
  · exact fun order b0 hlen hb hb4 => prefixLoop_rex_other order rest hpre hlen hrex hb hb4
  · exact fun post b0 hpost hne hlen hb hb4 => prefixLoop_rex_dropped rest hpre hpost hne hlen hrex hb hb4
  · exact fun rex2 b0 hlen hrex2 hb hb4 => prefixLoop_rex_replaced rest hpre hlen hrex hrex2 hb hb4
  · have hloop := prefixLoop_docLiteral b rest hpre hlen hrex
    refine ⟨hloop, fun hkind => ?_⟩
    obtain ⟨hesc, h0F⟩ := kind_of_prefix hkind
    exact decodeErr_oneByte hloop (escapeTaken_of_notMem hesc) h0F

/-- Settles O21: a byte that the escape test does not take has no row; the test itself looks one byte ahead. -/
theorem oneByteOpcodesAreUnknown : Obligations.OneByteOpcodesAreUnknown := by
  intro order bt pre rest b0 hpre
  have hloop (tail : List Byte) (hlen : pre.length ≤ 14) (hb0 : b0 ∈ escapes) :
      prefixLoop order bt (pre ++ b0 :: tail) (Config.maxLen + 1) Regs.initial =
        loopEnd (pre.length + 1) (scanned pre) b0 :=
    prefixLoop_prefixBytes_other order tail hpre hlen (kind_of_escape hb0).1 fun _ => (kind_of_escape hb0).2
  refine ⟨fun hlen hb hesc h0F hrex => ?_, fun p hlen hbt hesc hp => ?_, fun hlen hbt hesc => ?_, fun hlen hbt hesc => ?_⟩
  · exact decodeErr_oneByte (prefixLoop_prefixBytes_other order rest hpre hlen hb hrex) (escapeTaken_of_notMem hesc) h0F
  · have ha : Ahead (pre ++ b0 :: p :: rest) (Fin.ofNat 16 pre.length) [b0, p] :=
      Ahead.of_append (bs := [b0, p]) rest (by simp; omega)
    have hpeek : peekByte _ (endRegs (pre.length + 1) (scanned pre) b0) = .ok p := Ahead.peek ha.next
    exact decodeErr_oneByte (hloop _ (by omega) hesc) (escapeTaken_denied hbt hesc hpeek hp) (ne_of_mem_of_not_mem hesc (by decide))
  · refine decodeErr_of_prefixScan (r := endRegs (pre.length + 1) (scanned pre) b0) ?_
    refine prefixScan_of_escape_error (hloop [] (by omega) hesc) (escapeTaken_error hbt hesc ?_)
    have hpos := endRegs_pos (show pre.length + 1 ≤ 15 by omega) (scanned pre) b0
    exact (peekByte_eq_error _ _ _).mpr (.inr ⟨by omega, by rw [hpos]; simp, rfl⟩)
  · refine decodeErr_of_prefixScan (r := endRegs (pre.length + 1) (scanned pre) b0) ?_
    refine prefixScan_of_escape_error (hloop rest (by omega) hesc) (escapeTaken_error hbt hesc ?_)
    have hpos := endRegs_pos (show pre.length + 1 ≤ 15 by omega) (scanned pre) b0
    exact (peekByte_eq_error _ _ _).mpr (.inl ⟨by omega, rfl⟩)

/-- Settles O20: outside 64-bit bitness a byte 40 to 4F is a one-byte opcode (O21). -/
theorem rexBytesAreUnknownOutside64 : Obligations.RexBytesAreUnknownOutside64 := by
  intro order bt pre rest b hbt hpre hlen hb
  obtain ⟨hesc, h0F⟩ := kind_of_prefix (.inr hb)
  exact (oneByteOpcodesAreUnknown order bt pre rest b hpre).1 hlen (notMem_prefixBytes_of_isRex4 hb) hesc h0F
    fun h64 => absurd h64 hbt

/-! ### Barred prefixes before an escape -/

/-- R102: a category is filled where one of the bytes stands in its table. -/
theorem lastOf_isSome_iff {α : Type} (t : List (Byte × α)) (pre : List Byte) :
    (lastOf t pre).isSome = true ↔ ∃ x ∈ pre, (t.lookup x).isSome = true := by
  simp [lastOf, Option.isSome_iff_ne_none]

/-- R110: 66, F0, F2 or F3 among the legacy prefix bytes is what bars an escape. -/
theorem badBeforeEscape_scanned (pre : List Byte) :
    badBeforeEscape (scanned pre) = true ↔ ∃ x ∈ pre, x ∈ barredBytes := by
  have hbarred (x : Byte) : x ∈ barredBytes ↔ x = 0x66 ∨ (repeats.lookup x).isSome = true ∨ x = 0xF0 := by
    revert x; decide
  have hbad : badBeforeEscape (scanned pre) =
      (decide (0x66 ∈ pre) || (lastOf repeats pre).isSome || decide (0xF0 ∈ pre)) := rfl
  simp only [hbad, hbarred, Bool.or_eq_true, decide_eq_true_eq, lastOf_isSome_iff, and_or_left, exists_or,
    exists_eq_right, or_assoc]

/-- Settles O22: the loop leaves the barred prefix, or the REX byte, in `ps`, and the escape is refused at once. -/
theorem barredPrefixBeforeEscapeRaises : Obligations.BarredPrefixBeforeEscapeRaises := by
  intro order bt pre rest esc hpre hesc
  obtain ⟨hb, hb4⟩ := kind_of_escape hesc
  refine ⟨?_, fun p hlen hbt hp hbar => ?_, ?_⟩
  · rintro hlen rfl hbar
    exact decodeErr_barred (prefixLoop_prefixBytes_other order rest hpre hlen hb fun _ => hb4) (escapeTaken_b64 hesc)
      ((badBeforeEscape_scanned pre).mpr hbar)
  · have ha : Ahead (pre ++ esc :: p :: rest) (Fin.ofNat 16 pre.length) [esc, p] :=
      Ahead.of_append (bs := [esc, p]) rest (by simp; omega)
    have htaken := escapeTaken_ahead (bt := bt) (r := endRegs (pre.length + 1) (scanned pre) esc)
      ((isEscapeByte_iff esc).mpr hesc) ha.next (.inr ((topBits_iff p).mpr hp))
    exact decodeErr_barred (prefixLoop_prefixBytes_other order _ hpre (by omega) hb fun _ => hb4) htaken
      ((badBeforeEscape_scanned pre).mpr hbar)
  · rintro rex hlen rfl hrex
    exact decodeErr_barred (prefixLoop_rex_other order rest hpre hlen hrex hb hb4) (escapeTaken_b64 hesc) rfl

end Sys2Proof.Machine
end

section
/-! The payload bits (spec/40_prefix_scanner.md R111 to R119): each field of `ps` after a VEX2, VEX3 or EVEX payload as a number
read off the payload bytes, the reserved patterns, and what the whole scan leaves in the fields that it derives. -/

namespace Sys2Proof.Machine

open Sys2Proof Sys2Proof.Spec

/-! ### The bits of a byte -/

/-- R7: bit `i` of a byte. -/
theorem getLsbD_eq_decide (b : Byte) (i : Nat) : b.getLsbD i = decide (b.toNat / 2 ^ i % 2 = 1) :=
  Nat.testBit_eq_decide_div_mod_eq

/-- R7: bit `i` of a byte, complemented. -/
theorem not_getLsbD_eq_decide (b : Byte) (i : Nat) : (!b.getLsbD i) = decide (b.toNat / 2 ^ i % 2 = 0) := by
  rw [getLsbD_eq_decide, ← decide_not, decide_eq_decide, Nat.mod_two_not_eq_one]

/-- R7: bit 7 of a byte, and its complement. -/
theorem topBit_eq_decide (b : Byte) :
    b.getLsbD 7 = decide (b.toNat / 128 = 1) ∧ (!b.getLsbD 7) = decide (b.toNat / 128 = 0) := by
  revert b; decide

/-- R111, R112, R114: the field vvvv, which is stored complemented. -/
theorem vvvvField_eq (b : Byte) : ~~~(b.extractLsb' 3 4) = BitVec.ofNat 4 (15 - b.toNat / 8 % 16) := by
  revert b; decide

/-- R117: the field vvvv after the masking. -/
theorem vvvv_masked (bt : Bitness) (n : Nat) :
    (if bt = .b64 then BitVec.ofNat 4 n else BitVec.ofNat 4 n &&& 7) = BitVec.ofNat 4 (if bt = .b64 then n else n % 8) := by
  split
  · rfl
  · apply BitVec.eq_of_toNat_eq
    rw [maskedVvvv, BitVec.toNat_ofNat, BitVec.toNat_ofNat]
    omega

/-- R7: bits `[i + k - 1 : i]` of a byte. -/
theorem extractLsb'_eq_ofNat (b : Byte) (i k : Nat) : b.extractLsb' i k = BitVec.ofNat k (b.toNat / 2 ^ i % 2 ^ k) := by
  apply BitVec.eq_of_toNat_eq
  simp [Nat.shiftRight_eq_div_pow]

/-- R119: the mandatory prefix that `pp` stands for. -/
theorem ppMp_eq_ppOf (pp : BitVec 2) : ppMp pp = ppOf pp.toNat := by revert pp; decide

/-- R113: the map of a VEX3 payload. -/
theorem vexMap_eq_mapOf (p1 : Byte) : vexMap (p1.extractLsb' 0 5) = mapOf (p1.toNat % 32) := by
  revert p1; decide

/-- R116: the map of an EVEX payload. -/
theorem evexMap_eq_mapOf (P0 : Byte) : evexMap (P0.extractLsb' 0 2) = mapOf (P0.toNat % 4) := by
  revert P0; decide

/-- R115: the fixed bits of an EVEX payload. -/
theorem evexFixedOk_iff (P0 P1 : Byte) : evexFixedOk P0 P1 = true ↔ P0.toNat / 4 % 4 = 0 ∧ P1.toNat / 4 % 2 = 1 := by
  have hfix : P0.extractLsb' 2 2 = 0 ↔ P0.toNat / 4 % 4 = 0 := by revert P0; decide
  simp only [evexFixedOk, getLsbD_eq_decide, Bool.and_eq_true, decide_eq_true_eq, hfix, Nat.reducePow]

/-! ### The prefix state after a payload -/

/-- R117, R119: the end of a payload, field by field. -/
theorem endPayload_eq (bt : Bitness) (ps : PrefixState) :
    endPayload bt ps =
      { ps with
        R := in64 bt ps.R, X := in64 bt ps.X, B := in64 bt ps.B, Rp := in64 bt ps.Rp, Vp := in64 bt ps.Vp
        VpRaw := ps.Vp, vvvvRaw := ps.vvvv, vvvv := if bt = .b64 then ps.vvvv else ps.vvvv &&& 7
        mp := ppOf ps.pp.toNat } := by
  rw [← ppMp_eq_ppOf]
  cases bt <;> rfl

/-- R111, R117, R119: the VEX2 payload byte, bit by bit. -/
theorem endPayload_vex2State (bt : Bitness) (p1 : Byte) (ps : PrefixState) :
    endPayload bt (vex2State p1 ps) = afterVex2 bt p1.toNat ps := by
  have hR := (topBit_eq_decide p1).2
  have hL := getLsbD_eq_decide p1 2
  have hpp := extractLsb'_eq_ofNat p1 0 2
  have hppNat : (BitVec.ofNat 2 (p1.toNat % 4)).toNat = p1.toNat % 4 := by simp
  have hzero : in64 bt false = false := Bool.and_false _
  simp only [Nat.reducePow, Nat.div_one] at hL hpp
  rw [endPayload_eq]
  simp only [vex2State, afterVex2, hR, hL, hpp, hppNat, hzero, vvvvField_eq, vvvv_masked]

/-- R112, R117, R119: the VEX3 payload bytes, bit by bit. -/
theorem endPayload_vex3State (bt : Bitness) (p1 p2 : Byte) (m : OpMap) (ps : PrefixState) :
    endPayload bt { vex3State p1 p2 ps with map := some m } = afterVex3 bt p1.toNat p2.toNat m ps := by
  have hR := (topBit_eq_decide p1).2
  have hX := not_getLsbD_eq_decide p1 6
  have hB := not_getLsbD_eq_decide p1 5
  have hW := (topBit_eq_decide p2).1
  have hL := getLsbD_eq_decide p2 2
  have hpp := extractLsb'_eq_ofNat p2 0 2
  have hppNat : (BitVec.ofNat 2 (p2.toNat % 4)).toNat = p2.toNat % 4 := by simp
  simp only [Nat.reducePow, Nat.div_one] at hX hB hL hpp
  rw [endPayload_eq]
  simp only [vex3State, afterVex3, hR, hX, hB, hW, hL, hpp, hppNat, vvvvField_eq, vvvv_masked]

/-- R114, R117, R119: the EVEX payload bytes, bit by bit. -/
theorem endPayload_evexState (bt : Bitness) (P0 P1 P2 : Byte) (m : OpMap) (ps : PrefixState) :
    endPayload bt { evexState P0 P1 P2 ps with map := some m } = afterEvex bt P0.toNat P1.toNat P2.toNat m ps := by
  have hR := (topBit_eq_decide P0).2
  have hX := not_getLsbD_eq_decide P0 6
  have hB := not_getLsbD_eq_decide P0 5
  have hRp := not_getLsbD_eq_decide P0 4
  have hW := (topBit_eq_decide P1).1
  have hpp := extractLsb'_eq_ofNat P1 0 2
  have hppNat : (BitVec.ofNat 2 (P1.toNat % 4)).toNat = P1.toNat % 4 := by simp
  have hz := (topBit_eq_decide P2).1
  have hLL := extractLsb'_eq_ofNat P2 5 2
  have hb := getLsbD_eq_decide P2 4
  have hVp := not_getLsbD_eq_decide P2 3
  have haaa := extractLsb'_eq_ofNat P2 0 3
  simp only [Nat.reducePow, Nat.div_one] at hX hB hRp hpp hLL hb hVp haaa
  rw [endPayload_eq]
  simp only [evexState, afterEvex, hR, hX, hB, hRp, hW, hpp, hppNat, hz, hLL, hb, hVp, haaa, vvvvField_eq, vvvv_masked]

/-! ### Reading a payload -/

/-- R53: which bytes stand in the window from `k` on. -/
theorem cons_prefix_drop_iff {α : Type} {w bs : List α} {b : α} {k : Nat} :
    b :: bs <+: w.drop k ↔ w[k]? = some b ∧ bs <+: w.drop (k + 1) := by
  by_cases hk : k < w.length
  · rw [List.drop_eq_getElem_cons hk, List.cons_prefix_cons, List.getElem?_eq_getElem hk, Option.some.injEq, eq_comm]
  · rw [List.drop_eq_nil_of_le (by omega), List.getElem?_eq_none (by omega)]
    simp

/-- Settles O19: the payload bytes are ahead of the cursor, and their bits are those of the tables. -/
theorem payloadBitsFillPrefixState : Obligations.PayloadBitsFillPrefixState := by
  refine fun bt w r => ⟨fun p1 hpos h1 => ?_, fun p1 p2 m hpos h1 h2 hm => ?_, fun P0 P1 P2 m hpos h0 h1 h2 hzero hone hm => ?_⟩
  · rw [← endPayload_vex2State]
    exact (readVex2_ok bt w r _).mpr ⟨p1, by omega, h1, rfl⟩
  · have ha : Ahead w r.pos [p1, p2] :=
      ⟨cons_prefix_drop_iff.mpr ⟨h1, cons_prefix_drop_iff.mpr ⟨h2, List.nil_prefix⟩⟩, by simp; omega⟩
    rw [readVex3_ahead ha ((vexMap_eq_mapOf p1).trans hm), endPayload_vex3State]
    rfl
  · have ha : Ahead w r.pos [P0, P1, P2] :=
      ⟨cons_prefix_drop_iff.mpr ⟨h0, cons_prefix_drop_iff.mpr ⟨h1, cons_prefix_drop_iff.mpr ⟨h2, List.nil_prefix⟩⟩⟩,
        by simp; omega⟩
    rw [readEvex_ahead ha ((evexFixedOk_iff P0 P1).mpr ⟨hzero, hone⟩) ((evexMap_eq_mapOf P0).trans hm),
      endPayload_evexState]
    rfl

/-! ### Reserved payloads -/

/-- R113: a VEX3 payload with a reserved m-mmmm field is refused once it is read. -/
theorem readVex3_reserved {bt : Bitness} {w : List Byte} {r : Regs} {p1 p2 : Byte} {t : List Byte}
    (ha : Ahead w r.pos (p1 :: p2 :: t)) (hm : mapOf (p1.toNat % 32) = none) :
    ∃ r', readVex3 bt w r = raiseAt .InvalidVexEvexEncoding r' := by
  rw [← vexMap_eq_mapOf] at hm
  simp only [readVex3, ha.read, ha.tail.read, hm]
  exact ⟨_, rfl⟩

/-- R115, R116: an EVEX payload with wrong fixed bits or a reserved mm field is refused once it is read. -/
theorem readEvex_reserved {bt : Bitness} {w : List Byte} {r : Regs} {P0 P1 P2 : Byte} {t : List Byte}
    (ha : Ahead w r.pos (P0 :: P1 :: P2 :: t)) (h : evexFixedOk P0 P1 = false ∨ mapOf (P0.toNat % 4) = none) :
    ∃ r', readEvex bt w r = raiseAt .InvalidVexEvexEncoding r' := by
  rw [← evexMap_eq_mapOf] at h
  simp only [readEvex, ha.read, ha.tail.read, ha.tail.tail.read]
  split
  · rename_i m hfix hmap
    exact absurd h (by simp [hfix, hmap])
  · exact ⟨_, rfl⟩
  · exact ⟨_, rfl⟩

/-- R110: the prefixes that may stand before an escape bar none. -/
theorem badBeforeEscape_of_freeBytes {pre : List Byte} (h : ∀ x ∈ pre, x ∈ freeBytes) :
    badBeforeEscape (scanned pre) = false := by
  have hfree : ∀ x ∈ freeBytes, x ∉ barredBytes := by decide
  rw [Bool.eq_false_iff, ne_eq, badBeforeEscape_scanned]
  exact fun ⟨x, hx, hbar⟩ => hfree x (h x hx) hbar

/-- R106, R107, R123: free prefixes, an escape byte and the byte that lets it be taken: the payload is read. -/
theorem prefixScan_free_escape (order : RexOrder) {bt : Bitness} {w pre : List Byte} {esc p : Byte} {rest : List Byte}
    (hw : w = pre ++ esc :: p :: rest) (hpre : ∀ x ∈ pre, x ∈ freeBytes) (hesc : esc ∈ escapes) (hlen : pre.length ≤ 13)
    (hp : bt = .b64 ∨ topSet p) :
    prefixScan order bt w Regs.initial =
      if esc = 0xC5 then readVex2 bt w (endRegs (pre.length + 1) (scanned pre) esc)
      else if esc = 0xC4 then readVex3 bt w (endRegs (pre.length + 1) (scanned pre) esc)
      else readEvex bt w (endRegs (pre.length + 1) (scanned pre) esc) := by
  subst hw
  have hprefix : ∀ x ∈ pre, x ∈ prefixBytes := fun x hx =>
    (show ∀ x ∈ freeBytes, x ∈ prefixBytes by decide) x (hpre x hx)
  have ha : Ahead (pre ++ esc :: p :: rest) (Fin.ofNat 16 pre.length) [esc, p] :=
    Ahead.of_append (bs := [esc, p]) rest (by simp; omega)
  obtain ⟨hb, hb4⟩ := kind_of_escape hesc
  have htaken := escapeTaken_ahead (r := endRegs (pre.length + 1) (scanned pre) esc) ((isEscapeByte_iff esc).mpr hesc)
    ha.next (hp.imp_right (topBits_iff p).mpr)
  have hfree : badBeforeEscape (endRegs (pre.length + 1) (scanned pre) esc).ps = false := badBeforeEscape_of_freeBytes hpre
  rw [prefixScan_of_escape (prefixLoop_prefixBytes_other order _ hprefix (by omega) hb fun _ => hb4) htaken, readEscape,
    if_neg (Bool.eq_false_iff.mp hfree)]

/-- Settles O23: nothing bars the escape, the payload is read, and its reserved pattern is refused. -/
theorem reservedPayloadsRaise : Obligations.ReservedPayloadsRaise := by
  refine fun order bt pre rest hpre => ⟨fun p1 p2 hlen htop hm => ?_, fun P0 P1 P2 hlen htop hres => ?_⟩
  · have ha : Ahead (pre ++ 0xC4 :: p1 :: p2 :: rest) (Fin.ofNat 16 pre.length) [0xC4, p1, p2] :=
      Ahead.of_append (bs := [0xC4, p1, p2]) rest (by simp; omega)
    obtain ⟨r', hread⟩ := readVex3_reserved (bt := bt) (r := endRegs (pre.length + 1) (scanned pre) 0xC4) ha.next hm
    refine decodeErr_of_prefixScan (r := r') ?_
    rw [prefixScan_free_escape order rfl hpre (by decide) (by omega) htop, if_neg (by decide), if_pos rfl, hread]
  · have ha : Ahead (pre ++ 0x62 :: P0 :: P1 :: P2 :: rest) (Fin.ofNat 16 pre.length) [0x62, P0, P1, P2] :=
      Ahead.of_append (bs := [0x62, P0, P1, P2]) rest (by simp; omega)
    have hbad : evexFixedOk P0 P1 = false ∨ mapOf (P0.toNat % 4) = none := by
      rw [Bool.eq_false_iff, ne_eq, evexFixedOk_iff]
      by_cases h0 : P0.toNat % 4 = 0
      · rw [h0]; exact .inr rfl
      · exact .inl (by omega)
    obtain ⟨r', hread⟩ := readEvex_reserved (bt := bt) (r := endRegs (pre.length + 1) (scanned pre) 0x62) ha.next hbad
    refine decodeErr_of_prefixScan (r := r') ?_
    rw [prefixScan_free_escape order rfl hpre (by decide) (by omega) htop, if_neg (by decide), if_neg (by decide), hread]

/-! ### What a scan leaves -/

/-- R123: a scan ends in legacy space with the fields that `legacyEnd` derives, or in VEX or EVEX space with those that
`endPayload` derives. -/
theorem prefixScan_space {order : RexOrder} {bt : Bitness} {w : List Byte} {r r' : Regs}
    (h : prefixScan order bt w r = .ok r') :
    (∃ ps, r'.ps = legacyEnd ps) ∨ (r'.ps.space ≠ .Legacy ∧ ∃ ps, r'.ps = endPayload bt ps) := by
  have hspace (ps : PrefixState) : (endPayload bt ps).space = ps.space := by rw [endPayload_eq]
  obtain ⟨r1, t, -, -, ⟨-, hesc⟩ | ⟨-, rfl⟩⟩ := prefixScan_ok order bt w r r' h
  · refine .inr ?_
    obtain ⟨-, ⟨-, hread⟩ | ⟨-, hread⟩ | ⟨-, -, hread⟩⟩ := readEscape_ok bt w _ r1 r' hesc
    · obtain ⟨p1, -, -, rfl⟩ := (readVex2_ok bt w r1 r').mp hread
      exact ⟨by simp [hspace, vex2State], _, rfl⟩
    · obtain ⟨p1, p2, m, -, -, -, -, rfl⟩ := readVex3_ok bt w r1 r' hread
      exact ⟨by simp [hspace, vex3State], _, rfl⟩
    · obtain ⟨P0, P1, P2, m, -, -, -, -, -, -, rfl⟩ := readEvex_ok bt w r1 r' hread
      exact ⟨by simp [hspace, evexState], _, rfl⟩
  · exact .inl ⟨_, rfl⟩

/-- R118: the mandatory prefix of a legacy instruction, as a priority among the prefixes. -/
theorem legacyMp_eq (rep : Option Rep) (opsize : Bool) :
    legacyMp rep opsize =
      if rep = some .F2 then .PF2 else if rep = some .F3 then .PF3 else if opsize then .P66 else .NP := by
  match rep with
  | none | some .F2 | some .F3 => rfl

/-- Settles O18: a legacy scan derives the mandatory prefix from the prefixes, a payload from `pp`. -/
theorem mandatoryPrefixOfScan : Obligations.MandatoryPrefixOfScan := by
  intro order bt w r h
  obtain ⟨ps, hps⟩ | ⟨hspace, ps, hps⟩ := prefixScan_space h
  · rw [hps, legacyEnd_eq]
    exact legacyMp_eq ps.rep ps.opsize
  · rw [if_neg hspace, hps, endPayload_eq]

/-- R104: the REX fields at the end of a legacy scan with the REX byte `x` held. -/
theorem legacyEnd_rexFields {ps : PrefixState} {x : Byte} (h : ps.rex = some x) :
    (legacyEnd ps).W = decide (x.toNat / 8 % 2 = 1) ∧ (legacyEnd ps).R = decide (x.toNat / 4 % 2 = 1) ∧
      (legacyEnd ps).X = decide (x.toNat / 2 % 2 = 1) ∧ (legacyEnd ps).B = decide (x.toNat % 2 = 1) := by
  have hbit := getLsbD_eq_decide x
  simp only [legacyEnd, h]
  exact ⟨hbit 3, hbit 2, hbit 1, by simpa using hbit 0⟩

/-- Settles O17: the loop holds no byte but 40 to 4F as REX, and the end of a legacy scan takes its bits; with 40 they are
all 0. -/
theorem rexFieldsOfLegacyScan : Obligations.RexFieldsOfLegacyScan := by
  refine ⟨fun order bt w r h hlegacy x hx => ⟨?_, ?_⟩, fun order rest => ?_⟩
  · have hrange := prefixScan_inRange order bt w Regs.initial Regs.initial_inRange
    rw [h] at hrange
    have hrex := ((Regs.inRange_iff r).mp hrange).1 x hx
    exact ((isRex_iff .b64 x).mp (by simp [isRex, hrex])).2
  · obtain ⟨ps, hps⟩ | ⟨hspace, -⟩ := prefixScan_space h
    · rw [hps, legacyEnd_rex] at hx
      rw [hps]
      exact legacyEnd_rexFields hx
    · exact absurd hlegacy hspace
  · have hloop := prefixLoop_rex_other order (pre := []) (rex := 0x40) (b := 0x0F) rest (by simp) (by simp) rfl
      (by decide) (by unfold isRex4; decide)
    exact ⟨_, prefixScan_of_legacy hloop (escapeTaken_of_notMem (by decide)), rfl, rfl, rfl, rfl, rfl, rfl⟩

end Sys2Proof.Machine
end

section
/-! Registers outside 64-bit bitness (spec/40_prefix_scanner.md R105, R117; spec/43_vex_evex_fields.md R194): the extension bits
of `ps` are 0 there, so that every register of a record has an index below 8. -/

namespace Sys2Proof.Machine

open Sys2Proof Sys2Proof.Spec

/-! ### No REX byte is held -/

/-- R105: outside 64-bit bitness the loop holds no REX byte. -/
theorem prefixLoop_rex_none {order : RexOrder} {bt : Bitness} {w : List Byte} (hbt : bt ≠ .b64) {n : Nat} {r r' : Regs}
    (hr : r.ps.rex = none) (h : prefixLoop order bt w n r = .ok r') : r'.ps.rex = none := by
  have hrex (b : Byte) : isRex bt b = false := by
    rw [Bool.eq_false_iff, ne_eq, isRex_iff]
    exact fun ⟨h64, _⟩ => hbt h64
  induction n generalizing r with
  | zero => cases h
  | succ n ih =>
    unfold prefixLoop at h
    split at h
    · cases h
    · rename_i b r1 hread
      obtain ⟨-, -, rfl⟩ := (readByte_eq_ok w r r1 b).mp hread
      split at h
      · exact ih (recordPrefix_rex ‹_›) h
      · rw [if_neg (Bool.eq_false_iff.mp (hrex b))] at h
        cases h; exact hr

/-- R105: outside 64-bit bitness the prefix scan holds no REX byte. -/
theorem prefixScan_rex_none {order : RexOrder} {bt : Bitness} {w : List Byte} (hbt : bt ≠ .b64) {r : Regs}
    (h : prefixScan order bt w Regs.initial = .ok r) : r.ps.rex = none := by
  obtain ⟨r1, t, hloop, -, ⟨-, hesc⟩ | ⟨-, rfl⟩⟩ := prefixScan_ok order bt w _ r h
  · have hr1 := prefixLoop_rex_none hbt rfl hloop
    obtain ⟨-, ⟨-, hread⟩ | ⟨-, hread⟩ | ⟨-, -, hread⟩⟩ := readEscape_ok bt w _ r1 r hesc
    · obtain ⟨p1, -, -, rfl⟩ := (readVex2_ok bt w r1 r).mp hread
      exact (endPayload_rex ..).trans hr1
    · obtain ⟨p1, p2, m, -, -, -, -, rfl⟩ := readVex3_ok bt w r1 r hread
      exact (endPayload_rex ..).trans hr1
    · obtain ⟨P0, P1, P2, m, -, -, -, -, -, -, rfl⟩ := readEvex_ok bt w r1 r hread
      exact (endPayload_rex ..).trans hr1
  · exact (legacyEnd_rex _).trans (prefixLoop_rex_none hbt rfl hloop)

/-! ### After the prefix scan the REX byte is kept -/

/-- R142: the opcode lookup keeps the held REX byte. -/
theorem opcodeLookup_rex {w : List Byte} {r r' : Regs} (h : opcodeLookup w r = .ok r') : r'.ps.rex = r.ps.rex := by
  obtain ⟨r1, hread, hlookup⟩ := opcodeLookup_ok w r r' h
  obtain ⟨o, hr1, -⟩ := readOpcode_ok w r r1 hread
  have hrex : r1.ps.rex = r.ps.rex := by rw [hr1]
  obtain ⟨-, -, ⟨-, rfl⟩ | ⟨-, f, -, rfl⟩⟩ := lookupEntry_ok r1 r' hlookup <;> exact hrex

theorem readSib_ps {w : List Byte} {as : AddrSize} {rm : BitVec 3} {r r' : Regs} (h : readSib w as rm r = .ok r') :
    r'.ps = r.ps := by
  obtain ⟨-, b, -, -, rfl⟩ | ⟨-, rfl⟩ := readSib_ok w as rm r r' h <;> rfl

theorem readImm_ps {w : List Byte} {has : Bool} {r r' : Regs} (h : readImm w has r = .ok r') : r'.ps = r.ps := by
  obtain ⟨-, b, -, -, rfl⟩ | ⟨-, rfl⟩ := readImm_ok w has r r' h <;> rfl

theorem readMemory_ps {bt : Bitness} {w : List Byte} {m : Byte} {r r' : Regs} (h : readMemory bt w m r = .ok r') :
    r'.ps = r.ps := by
  obtain ⟨r1, hsib, hdisp⟩ := readMemory_ok bt w m r r' h
  obtain ⟨hr', -⟩ := readDisp_ok w _ _ r' (dispSizeOf_mem ..) hdisp
  have hps := readSib_ps hsib
  exact (congrArg Regs.ps hr').trans hps

theorem readOperands_ps {bt : Bitness} {w : List Byte} {m : Byte} {sh : Shape} {r r' : Regs}
    (h : readOperands bt w m sh r = .ok r') : r'.ps = r.ps := by
  obtain ⟨-, himm⟩ | ⟨-, -, r1, hmem, himm⟩ := readOperands_ok bt w m sh r r' h
  · exact readImm_ps himm
  · exact (readImm_ps himm).trans (readMemory_ps hmem)

theorem modrmState_ps {bt : Bitness} {w : List Byte} {r r' : Regs} (h : modrmState bt w r = .ok r') : r'.ps = r.ps := by
  obtain ⟨m, f, rw, -, -, -, -, hops⟩ := modrmState_ok bt w r r' h
  have hps := readOperands_ps hops
  exact hps

/-- R105: outside 64-bit bitness the decoder holds no REX byte. -/
theorem scanRegs_rex_none {order : RexOrder} {bt : Bitness} {w : List Byte} (hbt : bt ≠ .b64) {r : Regs}
    (h : scanRegs order bt w = .ok r) : r.ps.rex = none := by
  obtain ⟨r1, r2, hscan, hop, ⟨-, hmodrm⟩ | ⟨-, rfl⟩⟩ := scanRegs_ok order bt w r h
  · rw [modrmState_ps hmodrm, opcodeLookup_rex hop, prefixScan_rex_none hbt hscan]
  · rw [opcodeLookup_rex hop, prefixScan_rex_none hbt hscan]

/-- R70, R138: a legacy instruction has the legacy prefixes that it is built from. -/
theorem build_legacy {c : Code} (f : Bundle) (h : (row c).space = .Legacy) : (build c f).bundle.legacy = f.legacy := by
  cases c <;> first | rfl | cases h

/-- R105: outside 64-bit bitness a decoded legacy instruction has no REX byte. -/
theorem decode_rex_none {order : RexOrder} {bt : Bitness} {w : List Byte} {i : Instr} {r : Regs} (hbt : bt ≠ .b64)
    (h : decode order bt w = .ok (i, r)) (hspace : (row i.code).space = .Legacy) : i.bundle.legacy.rex = none := by
  obtain ⟨hscan, c, -, rfl⟩ := (decode_eq_ok order bt w i r).mp h
  rw [build_code] at hspace
  rw [build_legacy _ hspace]
  show r.ps.rex.map _ = none
  rw [scanRegs_rex_none hbt hscan, Option.map_none]

/-! ### No extension bit is set -/

/-- R104, R117: every extension bit of `ps` is 0, and vvvv names one of the first eight registers. -/
structure PrefixState.Unextended (ps : PrefixState) : Prop where
  R : ps.R = false
  X : ps.X = false
  B : ps.B = false
  Rp : ps.Rp = false
  Vp : ps.Vp = false
  vvvv : ps.vvvv.toNat < 8

/-- R117: outside 64-bit bitness a payload leaves no extension bit. -/
theorem unextended_endPayload {bt : Bitness} (hbt : bt ≠ .b64) (ps : PrefixState) : (endPayload bt ps).Unextended := by
  have hin (x : Bool) : in64 bt x = false := by simp [in64, hbt]
  have hv : (ps.vvvv &&& 7).toNat < 8 := by rw [maskedVvvv]; omega
  rw [endPayload_eq, if_neg hbt]
  exact ⟨hin _, hin _, hin _, hin _, hin _, hv⟩

/-- R104: without a REX byte a legacy instruction has no extension bit. -/
theorem unextended_legacyState {p : LegacyPrefix} (m : OpMap) (h : p.rex = none) : (legacyState m p).Unextended := by
  rw [legacyState_eq, h]
  exact ⟨rfl, rfl, rfl, rfl, rfl, Nat.zero_lt_succ 7⟩

/-- R104, R117: outside 64-bit bitness an instruction has no extension bit, if no REX byte is among its legacy prefixes. -/
theorem unextended_instrState {bt : Bitness} {i : Instr} (hbt : bt ≠ .b64)
    (hrex : (row i.code).space = .Legacy → i.bundle.legacy.rex = none) : (instrState bt i).Unextended := by
  cases h : (row i.code).space with
  | Legacy => rw [instrState_legacy bt h]; exact unextended_legacyState _ (hrex h)
  | VEX => rw [instrState_vex bt h]; exact unextended_endPayload hbt _
  | EVEX => rw [instrState_evex bt h]; exact unextended_endPayload hbt _

/-! ### The registers of a record -/

/-- R194: a vector or MMX register without extension bits. -/
theorem index_vectorReg (cls : RegClass) (v : BitVec 3) : index (vectorReg cls false false v) < 8 := by
  revert v
  cases cls <;> decide

/-- R156, R164: a base or index register without an extension bit. -/
theorem index_addrReg (as : AddrSize) (v : BitVec 3) :
    index (addrReg as false v) < 8 ∧ addrReg as false v ≠ .rip ∧ addrReg as false v ≠ .eip := by
  revert v
  cases as <;> decide

/-- R194: the register of ModRM.reg. -/
theorem index_regOperand {ps : PrefixState} (h : ps.Unextended) (cls : RegClass) (v : BitVec 3) :
    index (regOperand cls ps v) < 8 := by
  unfold regOperand
  rw [h.R, h.Rp]
  cases ps.space <;> exact index_vectorReg cls v

/-- R194: the register of ModRM.rm. -/
theorem index_rmOperandReg {ps : PrefixState} (h : ps.Unextended) (cls : RegClass) (v : BitVec 3) :
    index (rmOperandReg cls ps v) < 8 := by
  unfold rmOperandReg
  rw [h.B, h.X]
  cases ps.space <;> exact index_vectorReg cls v

/-- R194: the register of vvvv. -/
theorem index_vvvvOperand {ps : PrefixState} (h : ps.Unextended) (cls : RegClass) : index (vvvvOperand cls ps) < 8 := by
  have htop : ps.vvvv.getLsbD 3 = false := Nat.testBit_lt_two_pow h.vvvv
  unfold vvvvOperand
  rw [htop, h.Vp]
  cases ps.space <;> exact index_vectorReg cls _

/-- R213, R214: the register of a filled slot. -/
theorem index_fillSlot {p : Pieces} (h : p.ps.Unextended) {sl : Slot} {x : Register}
    (hx : (fillSlot p sl).register = some x) : index x < 8 := by
  cases sl with
  | reg cls => cases hx; exact index_regOperand h cls p.reg
  | kreg => cases hx; exact p.reg.isLt
  | vvvv cls => cases hx; exact index_vvvvOperand h cls
  | rm cls =>
    cases hmd : p.md with
    | none =>
      simp only [fillSlot, hmd] at hx
      cases hx; exact index_rmOperandReg h cls p.rm
    | some md =>
      simp only [fillSlot, hmd] at hx
      cases hx
  | imm8 => cases hx

/-- R213, R214: the registers of a record's slots. -/
theorem index_assemble_ops {c : Code} {p : Pieces} (h : p.ps.Unextended) {o : OpSlot}
    (ho : o ∈ (assemble (tableForm c) p).ops) {x : Register} (hx : o.register = some x) : index x < 8 := by
  rw [assemble_ops, List.mem_append, List.mem_map] at ho
  obtain ⟨sl, -, rfl⟩ | hunused := ho
  · exact index_fillSlot h hx
  · rw [List.eq_of_mem_replicate hunused] at hx
    cases hx

/-! ### The memory operand -/

/-- R160: a base register outside 64-bit bitness: one of the first eight, and neither RIP nor EIP. -/
def plainBase (x : Register) : Prop := index x < 8 ∧ x ≠ .rip ∧ x ≠ .eip

/-- R154: the registers of 16-bit addressing. -/
theorem memWork16_plain (mod : BitVec 2) (rm : BitVec 3) :
    (∀ x, (memWork16 mod rm).base = some x → plainBase x) ∧ ∀ x, (memWork16 mod rm).index = some x → index x < 8 := by
  have htable : ∀ v : BitVec 3, (∀ x ∈ (table16 v).1, plainBase x) ∧ ∀ x ∈ (table16 v).2, index x < 8 := by
    unfold plainBase
    decide
  unfold memWork16
  split
  · exact ⟨fun _ h => (nomatch h), fun _ h => (nomatch h)⟩
  · exact htable rm

/-- R156 to R160: the registers of 32- and 64-bit addressing outside 64-bit bitness, without extension bits. -/
theorem memWork32_plain {bt : Bitness} (hbt : bt ≠ .b64) (as : AddrSize) (mod : BitVec 2) (rm : BitVec 3) (sib : Option Byte) :
    (∀ x, (memWork32 bt as false false mod rm sib).base = some x → plainBase x) ∧
      ∀ x, (memWork32 bt as false false mod rm sib).index = some x → index x < 8 := by
  cases sib with
  | none =>
    refine ⟨fun x hx => ?_, fun x hx => by cases hx⟩
    simp only [memWork32, rmBaseReg, if_neg hbt] at hx
    split at hx
    · cases hx
    · cases hx; exact index_addrReg as rm
  | some s =>
    refine ⟨fun x hx => ?_, fun x hx => ?_⟩
    · simp only [memWork32, sibBaseReg] at hx
      split at hx
      · cases hx
      · cases hx; exact index_addrReg as _
    · simp only [memWork32, sibIndexScale] at hx
      split at hx
      · cases hx
      · cases hx; exact (index_addrReg as _).1

/-- R154 to R160: the registers of a memory operand outside 64-bit bitness, without extension bits. -/
theorem memWork_plain {bt : Bitness} (hbt : bt ≠ .b64) (as : AddrSize) (mod : BitVec 2) (rm : BitVec 3) (sib : Option Byte) :
    (∀ x, (memWork bt as false false mod rm sib).base = some x → plainBase x) ∧
      ∀ x, (memWork bt as false false mod rm sib).index = some x → index x < 8 := by
  cases as with
  | a16 => exact memWork16_plain mod rm
  | a32 => exact memWork32_plain hbt .a32 mod rm sib
  | a64 => exact memWork32_plain hbt .a64 mod rm sib

/-- R154 to R160: the registers of `md` outside 64-bit bitness, without extension bits. -/
theorem rmWork_plain {bt : Bitness} (hbt : bt ≠ .b64) {ps : PrefixState} (h : ps.Unextended) {rm : RMOperand} {md : MemWork}
    (hmd : rmWork bt ps rm = some md) :
    (∀ x, md.base = some x → plainBase x) ∧ ∀ x, md.index = some x → index x < 8 := by
  cases rm with
  | reg v => cases hmd
  | mem mod v sib d =>
    simp only [rmWork, h.X, h.B, Option.some.injEq] at hmd
    rw [← hmd]
    exact memWork_plain hbt _ mod v sib

/-- R32: the base and index of a record are those of `md`, and None without one. -/
theorem assemble_base_index (f : Form) (p : Pieces) :
    (assemble f p).memoryBase = p.md.bind MemWork.base ∧ (assemble f p).memoryIndex = p.md.bind MemWork.index := by
  cases h : p.md with
  | none => rw [assemble_reg f p h]; exact ⟨rfl, rfl⟩
  | some md => rw [assemble_mem f p md h]; exact ⟨rfl, rfl⟩

/-- Settles O12: the decoder holds no REX byte and a payload keeps no extension bit, so that the slots, the base and the index
are filled from three-bit fields. -/
theorem noExtendedRegistersOutside64 : Obligations.NoExtendedRegistersOutside64 := by
  intro s t rec hbt hstep hres
  obtain ⟨st, -, hs⟩ | ⟨i, r, hd, ⟨e, hs⟩ | ⟨vf, -, hs⟩⟩ := step_cases s
  · rw [hs] at hstep; cases hstep; cases hres
  · rw [hs] at hstep; cases hstep; cases hres
  · rw [hs] at hstep; cases hstep; cases hres
    have hps : (instrState s.bitness i).Unextended := unextended_instrState hbt (decode_rex_none hbt hd)
    obtain ⟨hbase, hindex⟩ := assemble_base_index (tableForm i.code) { instrPieces i (s.decoded r) with vf := vf }
    rw [hbase, hindex]
    refine ⟨fun o ho x hx => index_assemble_ops hps ho hx, fun x hx => ?_, fun x hx => ?_⟩
    · obtain ⟨md, hmd, hx⟩ := Option.bind_eq_some_iff.mp hx
      exact (rmWork_plain hbt hps hmd).1 x hx
    · obtain ⟨md, hmd, hx⟩ := Option.bind_eq_some_iff.mp hx
      exact (rmWork_plain hbt hps hmd).2 x hx

end Sys2Proof.Machine
end

section
/-! The first-level opcode table (spec/41_opcode_table_walker.md R133 to R140): the rows of a key are those of the families of
its one entry, so that what a selection leaves is read off the entry's families. -/

namespace Sys2Proof.Machine

open Sys2Proof Sys2Proof.Spec

/-! ### Keys -/

/-- R132: the lookup key of a row. -/
def rowKey (c : Code) : TableSpace × OpMap × Mp × Byte := ((row c).space, (row c).map, (row c).mp, (row c).opcode)

/-- R140: the lookup key of an entry. -/
def entryKey (e : Entry) : TableSpace × OpMap × Mp × Byte := (e.space, e.map, e.mp, e.opc)

/-- R132: a lookup finds the rows that have its key. -/
theorem mem_lookup_iff_rowKey (sp : TableSpace) (m : OpMap) (mp : Mp) (o : Byte) (c : Code) :
    c ∈ lookup sp m mp o ↔ rowKey c = (sp, m, mp, o) := by
  simp only [mem_lookup, rowKey, Prod.mk.injEq]
  tauto

/-- R132: rows of one lookup have the same key. -/
theorem sameKey_of_mem_lookup {sp : TableSpace} {m : OpMap} {mp : Mp} {o : Byte} {c d : Code} (hc : c ∈ lookup sp m mp o)
    (hd : d ∈ lookup sp m mp o) : (row c).sameKey (row d) = true := by
  obtain ⟨rfl, rfl, rfl, rfl⟩ := (mem_lookup ..).mp hc
  exact (mem_keyRows c d).mp hd

/-! ### What the table's entries hold -/

/-- R140: every row of an entry has the entry's key, the digit and W of its family, and a ModRM byte where the entry says
so. -/
theorem firstLevel_rows : ∀ e ∈ firstLevel, ∀ f ∈ e.families, ∀ c ∈ f.2.2,
    rowKey c = entryKey e ∧ (row c).digit = f.1 ∧ (row c).w = f.2.1 ∧ decide ((row c).shape ≠ .NONE) = e.modrm := by
  decide +kernel

/-- R140: the families of an entry, of which there is one at least, are not empty. -/
theorem firstLevel_nonempty : ∀ e ∈ firstLevel, e.families ≠ [] ∧ ∀ f ∈ e.families, f.2.2 ≠ [] := by
  decide +kernel

/-- R140: no two entries have the same key. -/
theorem firstLevel_key_injective : ∀ e ∈ firstLevel, ∀ e' ∈ firstLevel, entryKey e = entryKey e' → e = e' := by
  decide +kernel

/-- R140, R141: every row of the table stands in an entry. -/
theorem exists_entry (c : Code) : ∃ e ∈ firstLevel, ∃ f ∈ e.families, c ∈ f.2.2 := by
  have hall : ∀ c ∈ allCodes, ∃ e ∈ firstLevel, ∃ f ∈ e.families, c ∈ f.2.2 := by decide +kernel
  exact hall c (mem_allCodes c)

/-- R136, R139: two families of an entry with the same digit have no W in common. -/
theorem firstLevel_families_exclude : ∀ e ∈ firstLevel, ∀ f ∈ e.families, ∀ g ∈ e.families, f.1 = g.1 →
    ∀ W, f.2.1.admits W = true → g.2.1.admits W = true → f = g := by
  decide +kernel

/-- R136, R138: the rows of a family differ in nothing that the decoder asks the family for, and no two have the same vector
length. -/
theorem firstLevel_families_agree : ∀ e ∈ firstLevel, ∀ f ∈ e.families, ∀ c ∈ f.2.2, ∀ d ∈ f.2.2,
    (row c).shape = (row d).shape ∧ (row c).mask = (row d).mask ∧
      (row c).bcst.map Prod.snd = (row d).bcst.map Prod.snd ∧ ((row c).vl = (row d).vl → c = d) := by
  decide +kernel

/-! ### Lookup and selection by entry -/

/-- R132, R140: the rows of a key are those of the families of the entries with this key. -/
theorem mem_lookup_iff_entry (sp : TableSpace) (m : OpMap) (mp : Mp) (o : Byte) (c : Code) :
    c ∈ lookup sp m mp o ↔ ∃ e ∈ firstLevel, entryKey e = (sp, m, mp, o) ∧ ∃ f ∈ e.families, c ∈ f.2.2 := by
  rw [mem_lookup_iff_rowKey]
  constructor
  · intro hkey
    obtain ⟨e, he, f, hf, hc⟩ := exists_entry c
    exact ⟨e, he, (firstLevel_rows e he f hf c hc).1.symm.trans hkey, f, hf, hc⟩
  · rintro ⟨e, he, hkey, f, hf, hc⟩
    exact (firstLevel_rows e he f hf c hc).1.trans hkey

/-- R140: the rows of an entry's key are those of its families. -/
theorem mem_lookup_entry {e : Entry} (he : e ∈ firstLevel) (c : Code) :
    c ∈ lookup e.space e.map e.mp e.opc ↔ ∃ f ∈ e.families, c ∈ f.2.2 := by
  rw [mem_lookup_iff_entry]
  constructor
  · rintro ⟨e', he', hkey, hc⟩
    rwa [firstLevel_key_injective e' he' e he hkey] at hc
  · exact fun hc => ⟨e, he, rfl, hc⟩

/-- R140: an entry has a row. -/
theorem exists_mem_lookup_entry {e : Entry} (he : e ∈ firstLevel) : ∃ c, c ∈ lookup e.space e.map e.mp e.opc := by
  obtain ⟨hfamilies, hrows⟩ := firstLevel_nonempty e he
  obtain ⟨f, hf⟩ := List.exists_mem_of_ne_nil _ hfamilies
  obtain ⟨c, hc⟩ := List.exists_mem_of_ne_nil _ (hrows f hf)
  exact ⟨c, (mem_lookup_entry he c).mpr ⟨f, hf, hc⟩⟩

/-- R140: the keys with a row are those of the entries. -/
theorem lookup_ne_nil_iff (sp : TableSpace) (m : OpMap) (mp : Mp) (o : Byte) :
    lookup sp m mp o ≠ [] ↔ ∃ e ∈ firstLevel, entryKey e = (sp, m, mp, o) := by
  constructor
  · intro hne
    obtain ⟨c, hc⟩ := List.exists_mem_of_ne_nil _ hne
    obtain ⟨e, he, hkey, -⟩ := (mem_lookup_iff_entry ..).mp hc
    exact ⟨e, he, hkey⟩
  · rintro ⟨e, he, hkey⟩
    obtain ⟨rfl, rfl, rfl, rfl⟩ := by simpa only [entryKey, Prod.mk.injEq] using hkey
    obtain ⟨c, hc⟩ := exists_mem_lookup_entry he
    exact List.ne_nil_of_mem hc

/-- R134, R140: a ModRM byte follows where the entry says so. -/
theorem needsModRM_entry {e : Entry} (he : e ∈ firstLevel) : needsModRM (lookup e.space e.map e.mp e.opc) = e.modrm := by
  have hrow : ∀ c ∈ lookup e.space e.map e.mp e.opc, decide ((row c).shape ≠ .NONE) = e.modrm := by
    intro c hc
    obtain ⟨f, hf, hc⟩ := (mem_lookup_entry he c).mp hc
    obtain ⟨-, -, -, hmodrm⟩ := firstLevel_rows e he f hf c hc
    exact hmodrm
  obtain ⟨c, hc⟩ := exists_mem_lookup_entry he
  rw [Bool.eq_iff_iff, needsModRM, List.any_eq_true]
  exact ⟨fun ⟨d, hd, hshape⟩ => hrow d hd ▸ hshape, fun hmodrm => ⟨c, hc, (hrow c hc).trans hmodrm⟩⟩

/-- Settles O24: the lookup finds the rows of the entry with its key, and no key has two entries. -/
theorem firstLevelTable : Obligations.FirstLevelTable := by
  refine ⟨fun sp m mp o => ?_, fun e he => ⟨needsModRM_entry he, mem_lookup_entry he, fun f hf c hc => ?_⟩⟩
  · simpa only [entryKey, Prod.mk.injEq] using lookup_ne_nil_iff sp m mp o
  · obtain ⟨-, hdigit, hw, -⟩ := firstLevel_rows e he f hf c hc
    exact ⟨hdigit, hw⟩

/-- Settles O26: two selected rows stand in families of one entry; they have one digit and a W in common, so that it is one
family. -/
theorem selectionLeavesOneFamily : Obligations.SelectionLeavesOneFamily := by
  intro sp m mp o reg W fam hsel c hc d hd
  obtain ⟨-, hmem⟩ := select_eq_some _ _ _ _ hsel
  obtain ⟨hclookup, hcreg, hcW⟩ := (hmem c).mp hc
  obtain ⟨hdlookup, hdreg, hdW⟩ := (hmem d).mp hd
  have hdigit := digit_eq_of_digitAdmits (sameKey_of_mem_lookup hclookup hdlookup) hcreg hdreg
  obtain ⟨e, he, hkey, f, hf, hcf⟩ := (mem_lookup_iff_entry ..).mp hclookup
  obtain ⟨e', he', hkey', g, hg, hdg⟩ := (mem_lookup_iff_entry ..).mp hdlookup
  obtain rfl := firstLevel_key_injective e he e' he' (hkey.trans hkey'.symm)
  obtain ⟨-, hcdigit, hcw, -⟩ := firstLevel_rows e he f hf c hcf
  obtain ⟨-, hddigit, hdw, -⟩ := firstLevel_rows e he g hg d hdg
  obtain rfl := firstLevel_families_exclude e he f hf g hg (hcdigit.symm.trans (hdigit.trans hddigit)) W (hcw ▸ hcW)
    (hdw ▸ hdW)
  obtain ⟨hshape, hmask, hbcst, hvl⟩ := firstLevel_families_agree e he f hf c hcf d hdg
  exact ⟨hshape, hmask, hdigit, hcw.trans hdw.symm, hbcst, hvl⟩

/-! ### The digits of the group opcodes -/

/-- R135 to R137, R140: whether the first-level table has a family for a key, ModRM.reg and W. -/
def tableSelects (sp : TableSpace) (m : OpMap) (mp : Mp) (o : Byte) (reg : Option (BitVec 3)) (W : Bool) : Bool :=
  firstLevel.any fun e => decide (entryKey e = (sp, m, mp, o)) &&
    e.families.any fun f => digitAdmits f.1 reg && f.2.1.admits W

/-- R135, R136: a selection leaves a row where one is admitted. -/
theorem select_isSome_iff (entry : List Code) (reg : Option (BitVec 3)) (W : Bool) :
    (select entry reg W).isSome = true ↔
      ∃ c ∈ entry, digitAdmits (row c).digit reg = true ∧ (row c).w.admits W = true := by
  rw [Option.isSome_iff_ne_none, ne_eq, select_eq_none]
  push Not
  rfl

/-- R137, R140: a selection leaves a family where the first-level table has one. -/
theorem select_lookup_isSome (sp : TableSpace) (m : OpMap) (mp : Mp) (o : Byte) (reg : Option (BitVec 3)) (W : Bool) :
    (select (lookup sp m mp o) reg W).isSome = tableSelects sp m mp o reg W := by
  rw [Bool.eq_iff_iff, select_isSome_iff]
  simp only [tableSelects, List.any_eq_true, Bool.and_eq_true, decide_eq_true_eq]
  constructor
  · rintro ⟨c, hc, hreg, hW⟩
    obtain ⟨e, he, hkey, f, hf, hcf⟩ := (mem_lookup_iff_entry ..).mp hc
    obtain ⟨-, hdigit, hw, -⟩ := firstLevel_rows e he f hf c hcf
    exact ⟨e, he, hkey, f, hf, hdigit ▸ hreg, hw ▸ hW⟩
  · rintro ⟨e, he, hkey, f, hf, hreg, hW⟩
    obtain ⟨c, hcf⟩ := List.exists_mem_of_ne_nil _ ((firstLevel_nonempty e he).2 f hf)
    obtain ⟨-, hdigit, hw, -⟩ := firstLevel_rows e he f hf c hcf
    exact ⟨c, (mem_lookup_iff_entry ..).mpr ⟨e, he, hkey, f, hf, hcf⟩, hdigit ▸ hreg, hw ▸ hW⟩

/-- Settles O25: the families of each group opcode's entry, digit by digit. -/
theorem groupDigitsWithFamily : Obligations.GroupDigitsWithFamily := by
  unfold Obligations.GroupDigitsWithFamily
  simp only [select_lookup_isSome]
  decide +kernel

/-! ### LOCK -/

/-- R133: the lookup of a legacy opcode with LOCK raises `UnknownOpcode`, whether or not the opcode has a row. -/
theorem lookupEntry_of_lock {r : Regs} (hspace : r.ps.space = .Legacy) (hlock : r.ps.lock = true) :
    ∃ st, lookupEntry r = .error st ∧ st.err = .UnknownOpcode := by
  unfold lookupEntry
  split
  · exact ⟨_, rfl, rfl⟩
  · rw [hspace, hlock]
    exact ⟨_, rfl, rfl⟩

/-- R133, R142: LOCK, once the opcode is read. -/
theorem opcodeLookup_of_lock {w : List Byte} {r r1 : Regs} (hread : readOpcode w r = .ok r1)
    (hspace : r1.ps.space = .Legacy) (hlock : r1.ps.lock = true) :
    ∃ st, opcodeLookup w r = .error st ∧ st.err = .UnknownOpcode := by
  obtain ⟨st, hst, herr⟩ := lookupEntry_of_lock hspace hlock
  exact ⟨st, by simp only [opcodeLookup, hread, hst], herr⟩

/-- R500: an error of the opcode lookup is the decoder's. -/
theorem decodeErr_of_opcodeLookup {order : RexOrder} {bt : Bitness} {w : List Byte} {r : Regs} {st : Stop}
    (hscan : prefixScan order bt w Regs.initial = .ok r) (hlookup : opcodeLookup w r = .error st) :
    decodeErr order bt w = some st.err := by
  simp only [decodeErr, decode, scanRegs, hscan, hlookup]

/-- R123, R130: the scan of legacy prefix bytes and 0F, and the read of the opcode byte after them. -/
theorem readOpcode_after_prefixBytes (order : RexOrder) (bt : Bitness) {pre : List Byte} {o : Byte} (rest : List Byte)
    (hpre : ∀ x ∈ pre, x ∈ prefixBytes) (hlen : pre.length ≤ 13) (h38 : o ≠ 0x38) (h3A : o ≠ 0x3A) :
    ∃ r r1, prefixScan order bt (pre ++ 0x0F :: o :: rest) Regs.initial = .ok r ∧
      readOpcode (pre ++ 0x0F :: o :: rest) r = .ok r1 ∧ r1.ps.space = .Legacy ∧
      r1.ps.lock = decide ((0xF0 : Byte) ∈ pre) := by
  have hloop := prefixLoop_prefixBytes_other order (bt := bt) (b := 0x0F) (o :: rest) hpre (by omega) (by decide)
    fun _ => by unfold isRex4; decide
  have hscan := prefixScan_of_legacy hloop (escapeTaken_of_notMem (by decide))
  have ha : Ahead (pre ++ 0x0F :: o :: rest) (Fin.ofNat 16 pre.length) [0x0F, o] :=
    Ahead.of_append (bs := [0x0F, o]) rest (by simp; omega)
  have hspace : (legacyEnd (scanned pre)).space = .Legacy := by rw [legacyEnd_eq]
  have hlock : (legacyEnd (scanned pre)).lock = decide ((0xF0 : Byte) ∈ pre) := by rw [legacyEnd_eq]; rfl
  exact ⟨_, _, hscan,
    readOpcode_legacy (r := { endRegs (pre.length + 1) (scanned pre) 0x0F with ps := legacyEnd (scanned pre) }) ha.next
      hspace rfl h38 h3A, hspace, hlock⟩

/-- Settles O27: the lookup refuses LOCK in legacy space, and a scan of prefix bytes up to 0F ends there with LOCK held. -/
theorem lockOnLegacyRowRaises : Obligations.LockOnLegacyRowRaises := by
  refine ⟨fun w r r1 hread hspace hlock _ => opcodeLookup_of_lock hread hspace hlock, ?_⟩
  intro order bt pre rest o hpre hF0 hlen h38 h3A
  obtain ⟨r, r1, hscan, hread, hspace, hlock⟩ := readOpcode_after_prefixBytes order bt rest hpre hlen h38 h3A
  obtain ⟨st, hst, herr⟩ := opcodeLookup_of_lock hread hspace (hlock.trans (decide_eq_true hF0))
  rw [decodeErr_of_opcodeLookup hscan hst, herr]

end Sys2Proof.Machine
end

section
/-! When an instruction completes (spec/43_vex_evex_fields.md R199): the checks of `VectorFieldDecode` pass exactly where the
fields are legal, and LOCK bars a legacy row (spec/41_opcode_table_walker.md R133). -/

namespace Sys2Proof.Machine

open Sys2Proof Sys2Proof.Spec

/-! ### Legality of a legacy instruction -/

/-- R133: a legacy instruction is legal where no LOCK stands before it. -/
theorem Instr.legal_legacy (bt : Bitness) {i : Instr} (h : (row i.code).space = .Legacy) :
    i.legal bt = !i.bundle.legacy.lock := by
  simp only [Instr.legal, Instr.vvvvLegal, h, Bool.true_and]

/-! ### The checks of an EVEX instruction -/

/-- R191, R192: the three checks of masking fail exactly where masking is not legal. -/
theorem maskChecks_eq (m : MaskKind) (p : EvexPrefix) :
    (decide (m = .none) && (decide (p.aaa ≠ 0) || p.z) || decide (m = .k1) && p.z || p.z && decide (p.aaa = 0)) =
      !p.maskLegal m := by
  cases m <;> cases hz : p.z <;> simp [EvexPrefix.maskLegal, hz]

/-- R184, R187: b = 1 fails a check exactly where the rm operand is a register or the row has no broadcast. -/
theorem bcstChecks_eq {α : Type} (regform b : Bool) (bcst : Option α) :
    (regform && b || !regform && b && bcst.isNone) = !(!b || !regform && bcst.isSome) := by
  cases regform
  · cases bcst <;> simp
  · simp

/-- R187 to R193: the field checks of an EVEX instruction, over its own fields. -/
theorem evexFieldsBad_instrState {i : Instr} (bt : Bitness) (h : (row i.code).space = .EVEX) :
    evexFieldsBad (tableForm i.code) (instrState bt i) i.bundle.rm.isReg =
      (!i.bundle.rm.isReg && i.bundle.evex.b && (row i.code).bcst.isNone || !i.vvvvLegal ||
        !i.bundle.evex.maskLegal (row i.code).mask ||
        decide ((row i.code).shape = .K_V_RM) &&
          (decide (bt = .b64) && i.bundle.evex.R || decide (bt = .b64) && i.bundle.evex.Rp)) := by
  have hv : (!i.vvvvLegal) =
      (!(tableForm i.code).usesVvvv && (decide (i.bundle.evex.vvvv ≠ 0) || i.bundle.evex.Vp)) := by
    simp [Instr.vvvvLegal, h, Bool.not_or, Bool.not_and]
  rw [instrState_evex bt h, evexPrefixState_eq, hv, ← maskChecks_eq, ← tableForm_kDest]
  simp only [evexFieldsBad, Bool.or_assoc]
  rfl

/-- R184, R187 to R193: the field checks and the check of the vector length fail exactly where an EVEX instruction is not
legal. -/
theorem evexChecks_eq_not_legal {i : Instr} (bt : Bitness) (h : (row i.code).space = .EVEX) :
    (i.bundle.rm.isReg && i.bundle.evex.b || evexFieldsBad (tableForm i.code) (instrState bt i) i.bundle.rm.isReg) =
      !i.legal bt := by
  rw [evexFieldsBad_instrState bt h, ← Bool.and_or_distrib_left, ← Bool.or_assoc, ← Bool.or_assoc, ← Bool.or_assoc,
    bcstChecks_eq]
  simp only [Instr.legal, h, Bool.not_and, Bool.not_or, Bool.not_not, ne_eq, decide_not]
  ac_rfl

/-! ### `VectorFieldDecode` of an instruction -/

/-- R107, R132: an instruction's `ps` is in legacy space where its row is. -/
theorem instrState_space_legacy_iff (bt : Bitness) (i : Instr) :
    (instrState bt i).space = .Legacy ↔ (row i.code).space = .Legacy := by
  cases h : (row i.code).space with
  | Legacy => rw [instrState_legacy bt h, legacyState_eq]; exact iff_of_true rfl rfl
  | VEX =>
    rw [instrState_vex bt h, vexState_eq]
    cases i.bundle.vex.three <;> exact iff_of_false nofun nofun
  | EVEX => rw [instrState_evex bt h, evexPrefixState_eq]; exact iff_of_false nofun nofun

/-- R102: the LOCK of a legacy instruction is in `ps`. -/
theorem instrState_lock_legacy (bt : Bitness) {i : Instr} (h : (row i.code).space = .Legacy) :
    (instrState bt i).lock = i.bundle.legacy.lock := by
  rw [instrState_legacy bt h, legacyState_eq]

/-- R182: REGFORM of an instruction's pieces. -/
theorem instrPieces_md_isNone (i : Instr) (s : State) : (instrPieces i s).md.isNone = i.bundle.rm.isReg := by
  show (rmWork _ _ i.bundle.rm).isNone = _
  cases i.bundle.rm <;> rfl

/-- R180: a legacy instruction has no vector fields to check. -/
theorem instrFields_legacy {i : Instr} (s : State) (h : (row i.code).space = .Legacy) :
    instrFields i s = .ok VectorFields.initial :=
  vectorFieldDecode_legacy _ _ _ _ ((instrState_space_legacy_iff s.bitness i).mpr h)

/-- R189, R199: `VectorFieldDecode` of a VEX instruction raises exactly where it is not legal. -/
theorem instrFields_vex {i : Instr} (s : State) (h : (row i.code).space = .VEX) :
    ∃ vf, instrFields i s = if i.legal s.bitness then .ok vf else .error .InvalidVexEvexEncoding := by
  have hspace : (instrState s.bitness i).space = .VEX2 ∨ (instrState s.bitness i).space = .VEX3 := by
    rw [instrState_vex _ h, vexState_eq]
    cases i.bundle.vex.three <;> simp
  have hraw : (instrState s.bitness i).vvvvRaw = i.bundle.vex.vvvv := by rw [instrState_vex _ h, vexState_eq]
  have hcheck : (!(tableForm i.code).usesVvvv && decide (i.bundle.vex.vvvv ≠ 0)) = !i.legal s.bitness := by
    simp [Instr.legal, Instr.vvvvLegal, h]
  have hfields := vectorFieldDecode_vex (tableForm i.code) _ (instrPieces i s).md.isNone
    (isDisp8 (instrPieces i s).md (instrPieces i s).dispSize) hspace
  rw [hraw, hcheck] at hfields
  simp only [Bool.not_eq_true', ← Bool.not_eq_true, ite_not] at hfields
  exact ⟨_, hfields⟩

/-- R184, R187 to R193, R199: `VectorFieldDecode` of an EVEX instruction raises exactly where it is not legal. -/
theorem instrFields_evex {i : Instr} (s : State) (h : (row i.code).space = .EVEX) :
    ∃ vf, instrFields i s = if i.legal s.bitness then .ok vf else .error .InvalidVexEvexEncoding := by
  have hspace : (instrState s.bitness i).space = .EVEX := by rw [instrState_evex _ h, evexPrefixState_eq]
  have hb : (instrState s.bitness i).b = i.bundle.evex.b := by rw [instrState_evex _ h, evexPrefixState_eq]
  have hLL : (instrState s.bitness i).LL = llOf (row i.code).vl := by rw [instrState_evex _ h, evexPrefixState_eq]
  have hfields := vectorFieldDecode_evex (tableForm i.code) _ i.bundle.rm.isReg
    (isDisp8 (instrPieces i s).md (instrPieces i s).dispSize) hspace (tableForm_rounding _)
  rw [hb, hLL, decide_eq_false (llOf_ne_three _), Bool.or_false, evexChecks_eq_not_legal _ h] at hfields
  simp only [Bool.not_eq_true', ← Bool.not_eq_true, ite_not] at hfields
  refine ⟨_, Eq.trans ?_ hfields⟩
  rw [instrFields, instrPieces_md_isNone]
  rfl

/-- R199: `VectorFieldDecode` of a VEX or EVEX instruction raises its one error exactly where the instruction is not legal. -/
theorem instrFields_eq_ite {i : Instr} (s : State) (h : (row i.code).space ≠ .Legacy) :
    ∃ vf, instrFields i s = if i.legal s.bitness then .ok vf else .error .InvalidVexEvexEncoding := by
  cases hspace : (row i.code).space with
  | Legacy => exact absurd hspace h
  | VEX => exact instrFields_vex s hspace
  | EVEX => exact instrFields_evex s hspace

/-! ### What a meaning ends in -/

/-- R133: LOCK on a legacy row raises `UnknownOpcode`. -/
theorem exec_of_lock {i : Instr} (s : State) (h : (row i.code).space = .Legacy) (hlock : i.bundle.legacy.lock = true) :
    exec i s = raises s .UnknownOpcode := by
  have hspace : (instrPieces i s).ps.space = .Legacy := (instrState_space_legacy_iff _ _).mpr h
  have hps : (instrPieces i s).ps.lock = true := (instrState_lock_legacy s.bitness h).trans hlock
  rw [exec_eq_complete, complete, hspace, hps]
  rfl

/-- R199: on a VEX or EVEX row, a raise of `VectorFieldDecode` is the meaning's. -/
theorem exec_of_fields_error {i : Instr} {s : State} {e : DecodeError} (h : (row i.code).space ≠ .Legacy)
    (hfields : instrFields i s = .error e) : exec i s = raises s e := by
  have hspace : (instrPieces i s).ps.space ≠ .Legacy := fun hs => h ((instrState_space_legacy_iff _ _).mp hs)
  rw [instrFields] at hfields
  rw [exec_eq_complete, complete, decide_eq_false hspace, Bool.false_and, hfields]
  rfl

/-- R199, R210: where neither LOCK nor a field check raises, the meaning ends in the record. -/
theorem exec_of_fields_ok {i : Instr} {s : State} {vf : VectorFields}
    (hlock : (row i.code).space = .Legacy → i.bundle.legacy.lock = false) (hfields : instrFields i s = .ok vf) :
    exec i s = completes s vf (assemble (tableForm i.code) { instrPieces i s with vf := vf }) := by
  have hbar : (decide ((instrPieces i s).ps.space = .Legacy) && (instrPieces i s).ps.lock) = false := by
    rw [Bool.and_eq_false_imp, decide_eq_true_eq]
    intro hs
    have hlegacy := (instrState_space_legacy_iff _ _).mp hs
    exact (instrState_lock_legacy s.bitness hlegacy).trans (hlock hlegacy)
  rw [instrFields] at hfields
  rw [exec_eq_complete, complete, hbar, hfields]
  exact finish_eq_next _ _ _ (instr_descriptorMatches i s vf)

/-- Settles O37: LOCK decides for a legacy row, `VectorFieldDecode` for a VEX or EVEX row, and the record's Code is the
form's. -/
theorem execCompletesExactlyWhenLegal : Obligations.ExecCompletesExactlyWhenLegal := by
  intro i s
  by_cases h : (row i.code).space = .Legacy
  · rw [Instr.legal_legacy _ h, if_pos h, Bool.not_eq_true', Bool.not_eq_false']
    exact ⟨fun hlock => ⟨_, _, exec_of_fields_ok (fun _ => hlock) (instrFields_legacy s h), assemble_code _ _⟩,
      exec_of_lock s h⟩
  · obtain ⟨vf, hfields⟩ := instrFields_eq_ite s h
    rw [if_neg h]
    refine ⟨fun hlegal => ⟨vf, _, exec_of_fields_ok (absurd · h) ?_, assemble_code _ _⟩,
      fun hlegal => exec_of_fields_error h ?_⟩
    · rw [hfields, if_pos hlegal]
    · rw [hfields, hlegal]; rfl

end Sys2Proof.Machine
end

section
/-! Addressing (spec/42_modrm_sib_disp.md R151 to R161): the fields of ModRM and SIB as numbers, and the memory operand and
displacement size of 16-, 32- and 64-bit addressing; a memory form of a register-only row (R153). -/

namespace Sys2Proof.Machine

open Sys2Proof Sys2Proof.Spec

/-! ### The fields of ModRM and SIB -/

/-- R77: `mod`, as a number. -/
theorem modField_toNat (m : Byte) : (modField m).toNat = m.toNat / 64 := by
  simp only [modField, BitVec.extractLsb'_toNat, Nat.shiftRight_eq_div_pow]
  omega

/-- R77: `reg`, as the number that the digits are compared with. -/
theorem regField_eq_ofNat (m : Byte) : regField m = BitVec.ofNat 3 (m.toNat / 8) := by
  apply BitVec.eq_of_toNat_eq
  simp only [regField, BitVec.extractLsb'_toNat, Nat.shiftRight_eq_div_pow, BitVec.toNat_ofNat]

/-- R78: `scale`, as a number. -/
theorem sibScale_toNat (s : Byte) : (sibScale s).toNat = s.toNat / 64 := modField_toNat s

/-- R78: `index`, as a number. -/
theorem sibIndex_toNat (s : Byte) : (sibIndex s).toNat = s.toNat / 8 % 8 := by
  simp only [sibIndex, BitVec.extractLsb'_toNat, Nat.shiftRight_eq_div_pow]

/-- R78: `base`, as a number. -/
theorem sibBase_toNat (s : Byte) : (sibBase s).toNat = s.toNat % 8 := by
  simp only [sibBase, BitVec.extractLsb'_toNat, Nat.shiftRight_zero]

/-- R158: the index that stands for no register. -/
theorem sibIndex_eq_four_iff (s : Byte) : sibIndex s = 4 ↔ s.toNat / 8 % 8 = 4 := by
  rw [← BitVec.toNat_inj, sibIndex_toNat]; rfl

/-- R159: the base that stands for no register with mod = 00. -/
theorem sibBase_eq_five_iff (s : Byte) : sibBase s = 5 ↔ s.toNat % 8 = 5 := by
  rw [← BitVec.toNat_inj, sibBase_toNat]; rfl

/-- R156, R164: a base or index register by its number. -/
theorem addrReg_eq_gpr (as : AddrSize) (e : Bool) (v : BitVec 3) : addrReg as e v = gpr as (8 * e.toNat + v.toNat) := by
  cases as <;> simp only [addrReg, gpr, foldedAddr]

/-! ### 16-bit addressing -/

/-- R154: 16-bit addressing takes base and index from the table, but no base for mod = 00 with rm = 110. -/
theorem memWork16_eq (mod : BitVec 2) (rm : BitVec 3) :
    memWork16 mod rm =
      { as := .a16, base := if mod = 0 ∧ rm = 6 then none else (table16 rm).1, index := (table16 rm).2, scale := 1 } := by
  by_cases h : mod = 0 ∧ rm = 6
  · obtain ⟨rfl, rfl⟩ := h
    rfl
  · rw [if_neg h, memWork16, if_neg (by simpa using h)]

/-! ### 32- and 64-bit addressing -/

/-- R157: with 32- and 64-bit addressing rm = 100 stands for a SIB byte. -/
theorem needsSib_of_wide {as : AddrSize} (has : as ≠ .a16) (rm : BitVec 3) : needsSib as rm = decide (rm = 4) := by
  rw [needsSib, decide_eq_true has, Bool.true_and]

/-- R156 to R160: 32- and 64-bit addressing share their rules. -/
theorem memWork_of_wide {as : AddrSize} (has : as ≠ .a16) (bt : Bitness) (X B : Bool) (mod : BitVec 2) (rm : BitVec 3)
    (sib : Option Byte) : memWork bt as X B mod rm sib = memWork32 bt as X B mod rm sib := by
  cases as with
  | a16 => exact absurd rfl has
  | a32 => rfl
  | a64 => rfl

/-- R161: 32- and 64-bit addressing share the displacement sizes. -/
theorem dispSizeOf_of_wide {as : AddrSize} (has : as ≠ .a16) (mod : BitVec 2) (rm : BitVec 3) (sib : Option Byte) :
    dispSizeOf as mod rm sib = if mod = 1 then 1 else if mod = 2 ∨ noBase32 mod rm sib = true then 4 else 0 := by
  cases as with
  | a16 => exact absurd rfl has
  | a32 => simp [dispSizeOf]
  | a64 => simp [dispSizeOf]

/-- R156: the base register without a SIB byte, but for rm = 101 with mod = 00. -/
theorem rmBaseReg_of_based {mod : BitVec 2} {rm : BitVec 3} (h : ¬ (rm = 5 ∧ mod = 0)) (bt : Bitness) (as : AddrSize)
    (B : Bool) : rmBaseReg bt as mod B rm = some (gpr as (8 * B.toNat + rm.toNat)) := by
  rw [rmBaseReg, if_neg (by simpa using h), addrReg_eq_gpr]

/-- R159: the base register that a SIB byte names, by its number. -/
theorem sibBaseReg_eq (as : AddrSize) (mod : BitVec 2) (B : Bool) (s : Byte) :
    sibBaseReg as mod B s =
      if s.toNat % 8 = 5 ∧ mod = 0 then none else some (gpr as (8 * B.toNat + s.toNat % 8)) := by
  simp only [sibBaseReg, Bool.and_eq_true, decide_eq_true_eq, sibBase_eq_five_iff, addrReg_eq_gpr, sibBase_toNat]

/-- R158: the index register and the scale that a SIB byte names, by their numbers. -/
theorem sibIndexScale_eq (as : AddrSize) (X : Bool) (s : Byte) :
    sibIndexScale as X s =
      if s.toNat / 8 % 8 = 4 ∧ X = false then (none, 1)
      else (some (gpr as (8 * X.toNat + s.toNat / 8 % 8)), 2 ^ (s.toNat / 64)) := by
  simp only [sibIndexScale, Bool.and_eq_true, decide_eq_true_eq, Bool.not_eq_true', sibIndex_eq_four_iff, addrReg_eq_gpr,
    sibIndex_toNat, sibScale_toNat]

/-- R156, R160: the no-base form without a SIB byte. -/
theorem noBase32_none (mod : BitVec 2) (rm : BitVec 3) : noBase32 mod rm none = true ↔ rm = 5 ∧ mod = 0 := by
  rw [noBase32, Bool.and_eq_true, decide_eq_true_eq, decide_eq_true_eq, and_comm]

/-- R159: the no-base form with a SIB byte. -/
theorem noBase32_some (mod : BitVec 2) (rm : BitVec 3) (s : Byte) :
    noBase32 mod rm (some s) = true ↔ s.toNat % 8 = 5 ∧ mod = 0 := by
  rw [noBase32, Bool.and_eq_true, decide_eq_true_eq, decide_eq_true_eq, sibBase_eq_five_iff, and_comm]

/-- R77: the mod values of a memory form. -/
theorem mod_of_memory {mod : BitVec 2} (h : mod ≠ 3) : mod = 0 ∨ mod = 1 ∨ mod = 2 := by
  revert mod; decide

/-! ### A memory form of a register-only row -/

/-- R153: with a register-only shape a memory form raises `InvalidModRM`, before any byte after ModRM is read. -/
theorem readOperands_of_regOnly {m : Byte} {sh : Shape} (hmod : modField m ≠ 3) (hsh : sh.rmRegOnly = true)
    (bt : Bitness) (w : List Byte) (r : Regs) : readOperands bt w m sh r = raiseAt .InvalidModRM r := by
  rw [readOperands, if_neg hmod, if_pos hsh]

/-- R135, R153: the ModRM state on a ModRM byte that selects a register-only row and has a memory form. -/
theorem modrmState_of_regOnly {w : List Byte} {c : Code} {r : Regs} {m : Byte} {t : List Byte} (bt : Bitness)
    (ha : Ahead w r.pos (m :: t)) (hentry : r.entry = some (keyRows c))
    (hreg : digitAdmits (row c).digit (some (regField m)) = true) (hW : (row c).w.admits r.ps.W = true)
    (hmod : modField m ≠ 3) (honly : (row c).shape.rmRegOnly = true) :
    ∃ r', modrmState bt w r = raiseAt .InvalidModRM r' := by
  obtain ⟨f, hsel, -, d, hrow, hshape⟩ := select_keyRows c _ r.ps.W hreg hW
  have hsel' : select ((r.advance 1).entry.getD []) (some (regField m)) (r.advance 1).ps.W = some f := by
    show select (r.entry.getD []) _ _ = _
    rwa [hentry]
  refine ⟨{ r.advance 1 with modrm := some m, fam := some f }, ?_⟩
  unfold modrmState
  rw [ha.read]
  simp only [hsel', hrow, hshape]
  exact readOperands_of_regOnly hmod honly bt w _

/-- R500: an error of the reading states is the decoder's. -/
theorem decodeErr_of_scanRegs {order : RexOrder} {bt : Bitness} {w : List Byte} {e : DecodeError} {r : Regs}
    (h : scanRegs order bt w = raiseAt e r) : decodeErr order bt w = some e := by
  simp only [decodeErr, decode, h, raiseAt]

/-- R70, R134, R210: the scan of the bytes before ModRM of an instruction whose row has a ModRM byte goes on to the ModRM state,
with the rows of its key. -/
theorem scanRegs_encodeHead (order : RexOrder) {bt : Bitness} {w : List Byte} {i : Instr} {t : List Byte}
    (hwf : i.prefixWf bt = true) (hlock : i.bundle.legacy.lock = false) (hshape : (row i.code).shape ≠ .NONE)
    (ha : Ahead w 0 (encodeHead (row i.code) i.bundle ++ t)) :
    ∃ b0, scanRegs order bt w = modrmState bt w (lookedUp bt i b0) := by
  obtain ⟨r1, b0, hscan, hopc⟩ := opens_encodeHead order hwf ha
  obtain ⟨hlookup, -⟩ := lookupEntry_encoded (bt := bt)
    (r := openedRegs (encodeHead (row i.code) i.bundle).length (instrState bt i) b0 (row i.code).opcode) hwf hlock rfl rfl
  refine ⟨b0, (scanRegs_eq hscan hopc (hlookup hshape)).trans (if_pos ?_)⟩
  rw [Option.getD_some, needsModRM_keyRows, decide_eq_true hshape]

/-! ### The obligations -/

/-- Settles O28: the bytes before ModRM lead to the ModRM state, which selects the row and refuses the memory form. -/
theorem registerOnlyRowRefusesMemory : Obligations.RegisterOnlyRowRefusesMemory := by
  intro order bt i m rest hsh hwf hlock hlen hmod hdigit
  have honly : (row i.code).shape.rmRegOnly = true := by
    obtain h | h := hsh <;> rw [h] <;> rfl
  have hshape : (row i.code).shape ≠ .NONE := fun h => by rw [h] at honly; cases honly
  have hahead : Ahead (encodeHead (row i.code) i.bundle ++ m :: rest) 0 (encodeHead (row i.code) i.bundle ++ [m]) :=
    ⟨⟨rest, by simp⟩, by simp; omega⟩
  obtain ⟨b0, hscan⟩ := scanRegs_encodeHead order hwf hlock hshape hahead
  have hreg : digitAdmits (row i.code).digit (some (regField m)) = true := by
    rw [hdigit, regField_eq_ofNat]
    exact decide_eq_true rfl
  have hmem : modField m ≠ 3 := fun h => hmod (by rw [← modField_toNat, h]; rfl)
  obtain ⟨r', hmodrm⟩ := modrmState_of_regOnly (r := lookedUp bt i b0) bt (Ahead.right (r := Regs.initial) hahead) rfl hreg
    (instrState_admits hwf) hmem honly
  exact decodeErr_of_scanRegs (hscan.trans hmodrm)

/-- Settles O29, case by case. -/
theorem addressSizeTable : Obligations.AddressSizeTable := ⟨rfl, rfl, rfl, rfl, rfl, rfl⟩

/-- Settles O30: the eight entries are those of the model's table, which `memWork16_eq` reads. -/
theorem sixteenBitAddressing : Obligations.SixteenBitAddressing := by
  intro e he bt X B mod sib _
  have htable : table16 e.1 = (e.2.1.map (gpr .a16), e.2.2.map (gpr .a16)) := by
    revert e; decide
  refine ⟨rfl, ?_, rfl⟩
  show memWork16 mod e.1 = _
  rw [memWork16_eq, htable]

/-- Settles O31: with `md` and the displacement size of the wide sizes in their one form, each clause is a case of R156 to
R161. -/
theorem wideAddressing : Obligations.WideAddressing := by
  intro bt as X B mod has hmem
  simp only [memWork_of_wide has, dispSizeOf_of_wide has]
  refine ⟨needsSib_of_wide has, fun rm _ hbased => ⟨?_, ?_⟩, fun hmod => ⟨?_, ?_⟩, fun sib => ⟨?_, ?_⟩⟩
  · rw [memWork32, rmBaseReg_of_based hbased]
  · simp only [noBase32_none, hbased, or_false]
  · rw [hmod]; rfl
  · rw [hmod]; rfl
  · rw [memWork32, sibBaseReg_eq, sibIndexScale_eq, apply_ite Prod.fst, apply_ite Prod.snd]
  · simp only [noBase32_some]
    obtain rfl | rfl | rfl := mod_of_memory hmem <;> simp

end Sys2Proof.Machine
end

section
/-! The vector fields (spec/43_vex_evex_fields.md R181 to R199): the EVEX vector length and its rounding branch, the
displacement factor and the stored displacement, and the causes of `InvalidVexEvexEncoding`. -/

namespace Sys2Proof.Machine

open Sys2Proof Sys2Proof.Spec

/-! ### The stored displacement -/

/-- R196: truncated to `w` bits, an integer is its residue modulo 2^w. -/
theorem ofInt_toNat_cast (w : Nat) (x : Int) : ((BitVec.ofInt w x).toNat : Int) = x % (2 ^ w : Nat) := by
  rw [BitVec.toNat_ofInt, Int.toNat_of_nonneg (Int.emod_nonneg _ (by simp))]

/-- R196: the stored displacement is the product modulo 2^16 with 16-bit addressing, and modulo 2^32 otherwise. -/
theorem memoryDisplacement_toNat (as : AddrSize) (raw : Int) (n : Nat) :
    ((memoryDisplacement as raw n).toNat : Int) = (raw * n) % (if as = .a16 then 65536 else 4294967296) := by
  cases as with
  | a16 => rw [memoryDisplacement, BitVec.toNat_setWidth_of_le (by decide), ofInt_toNat_cast]; rfl
  | a32 => exact ofInt_toNat_cast 32 _
  | a64 => exact ofInt_toNat_cast 32 _

/-- Settles O33: the memory descriptor of the record holds the truncated product and the encoded size. -/
theorem storedDisplacement : Obligations.StoredDisplacement := by
  intro f p md hmd
  rw [assemble_mem f p md hmd]
  exact ⟨memoryDisplacement_toNat _ _ _, rfl⟩

/-! ### The EVEX vector length -/

/-- R183: outside the rounding branch, L'L alone gives the vector length, whatever the row's rounding. -/
theorem vectorLength_evex_plain (k : Rounding) {ps : PrefixState} {regform : Bool} (h : ps.space = .EVEX)
    (hplain : (regform && ps.b) = false) :
    vectorLength k ps regform =
      if ps.LL = 3 then none else some { vl := 128 <<< ps.LL.toNat, rc := .None, sae := false } := by
  simp only [vectorLength, h, hplain, Bool.false_eq_true, if_false]

/-- R183: the three lengths by L'L. -/
theorem evexLength_eq (ll : BitVec 2) (h : ll.toNat ≠ 3) :
    128 <<< ll.toNat = if ll.toNat = 0 then 128 else if ll.toNat = 1 then 256 else 512 := by
  revert ll; decide

/-- R184: in the rounding branch, the row's rounding decides, whatever L'L. -/
theorem vectorLength_evex_rounding {ps : PrefixState} (h : ps.space = .EVEX) (hb : ps.b = true) :
    vectorLength .er ps true = some { vl := 512, rc := rcMap ps.LL, sae := true } ∧
    vectorLength .sae ps true = some { vl := 512, rc := .None, sae := true } ∧
    vectorLength .none ps true = none := by
  simp only [vectorLength, h, hb, Bool.and_self, if_true, and_self]

/-- Settles O34: the two branches of the vector length, the map by its four values, and the table's rows. -/
theorem evexLengthAndRounding : Obligations.EvexLengthAndRounding := by
  refine ⟨fun k ps regform h hplain => ?_, fun ps => vectorLength_evex_rounding, ⟨rfl, rfl, rfl, rfl⟩, row_rounding⟩
  have hreserved : ps.LL = 3 ↔ ps.LL.toNat = 3 := BitVec.toNat_inj.symm
  rw [vectorLength_evex_plain k h (Bool.eq_false_iff.mpr (hplain <| Bool.and_eq_true_iff.mp ·))]
  by_cases hLL : ps.LL.toNat = 3
  · rw [if_pos hLL, if_pos (hreserved.mpr hLL)]
  · rw [if_neg hLL, if_neg (mt hreserved.mp hLL), evexLength_eq _ hLL]

/-! ### The displacement factor -/

/-- R195: `isDisp8` says that the rm operand is memory with a 1-byte displacement. -/
theorem isDisp8_iff (md : Option MemWork) (size : Nat) : isDisp8 md size = true ↔ md ≠ none ∧ size = 1 := by
  simp [isDisp8, Option.isSome_iff_ne_none]

/-- R195: a VEX or legacy form has factor 1. -/
theorem vectorFieldDecode_n_of_not_evex {f : Form} {ps : PrefixState} {regform disp8 : Bool} {vf : VectorFields}
    (h : ps.space ≠ .EVEX) (hok : vectorFieldDecode f ps regform disp8 = .ok vf) : vf.n = 1 := by
  have hvex (hs : ps.space = .VEX2 ∨ ps.space = .VEX3) : vf.n = 1 := by
    rw [vectorFieldDecode_vex _ _ _ _ hs] at hok
    split at hok
    · cases hok
    · cases hok; rfl
  cases hs : ps.space with
  | Legacy => rw [vectorFieldDecode_legacy _ _ _ _ hs] at hok; cases hok; rfl
  | VEX2 => exact hvex (.inl hs)
  | VEX3 => exact hvex (.inr hs)
  | EVEX => exact absurd hs h

/-- R187, R195, R199: what `vf` holds of an EVEX form whose checks pass, with or without a rounding form. -/
theorem vectorFieldDecode_ok_evex {f : Form} {ps : PrefixState} {regform disp8 : Bool} {vf : VectorFields}
    (h : ps.space = .EVEX) (hok : vectorFieldDecode f ps regform disp8 = .ok vf) :
    evexFieldsBad f ps regform = false ∧ vf.bcst = (!regform && ps.b) ∧
      vf.n = if disp8 then dispFactor f.bcst vf.bcst vf.vl else 1 := by
  unfold vectorFieldDecode at hok
  split at hok
  · cases hok
  · simp only [h] at hok
    split at hok
    · cases hok
    · rename_i hgood
      cases hok
      exact ⟨Bool.eq_false_iff.mpr hgood, rfl, rfl⟩

/-- R187: b = 1 with memory passes the checks only where the form has a broadcast. -/
theorem bcst_isSome_of_fields_ok {f : Form} {ps : PrefixState} {regform : Bool} (h : evexFieldsBad f ps regform = false)
    (hb : (!regform && ps.b) = true) : ∃ ms elem, f.bcst = some (ms, elem) := by
  cases hf : f.bcst with
  | none => simp [evexFieldsBad, hb, hf] at h
  | some m => exact ⟨m.1, m.2, rfl⟩

/-- Settles O35: an EVEX form whose checks pass has the factor of R195 where `isDisp8` holds; any other form has 1. -/
theorem displacementFactor : Obligations.DisplacementFactor := by
  intro f ps md size vf hok
  by_cases hspace : ps.space = .EVEX
  · obtain ⟨hgood, hbcst, hn⟩ := vectorFieldDecode_ok_evex hspace hok
    refine ⟨fun ⟨_, hdisp⟩ => ?_, fun hother => ?_⟩
    · rw [if_pos ((isDisp8_iff md size).mpr hdisp)] at hn
      refine ⟨fun hb => ?_, fun hb => by rw [hn, hb]; rfl⟩
      obtain ⟨ms, elem, hf⟩ := bcst_isSome_of_fields_ok hgood (hbcst.symm.trans hb)
      exact ⟨ms, elem, hf, by rw [hn, hb, hf]; rfl⟩
    · rwa [if_neg fun hdisp => hother ⟨hspace, (isDisp8_iff md size).mp hdisp⟩] at hn
  · exact ⟨fun hmem => absurd hmem.1 hspace, fun _ => vectorFieldDecode_n_of_not_evex hspace hok⟩

/-! ### The causes of `InvalidVexEvexEncoding` -/

/-- R189: which shapes have a vvvv operand. -/
theorem tableForm_usesVvvv (c : Code) :
    (tableForm c).usesVvvv = decide ((row c).shape ∉ [Shape.R_RM_IB, .RMreg_IB, .R_RM, .NONE]) := by
  unfold Form.usesVvvv tableForm
  cases (row c).shape <;> rfl

/-- R138, R141: the shapes of the VEX and EVEX rows: of those without a vvvv operand, VEX has two and EVEX one. -/
theorem row_shape_vector (c : Code) :
    ((row c).space = .VEX → (row c).shape ≠ .RMreg_IB ∧ (row c).shape ≠ .R_RM) ∧
    ((row c).space = .EVEX → (row c).shape ≠ .RMreg_IB ∧ (row c).shape ≠ .R_RM ∧ (row c).shape ≠ .NONE) := by
  cases c <;> decide

/-- R189: the VEX rows without a vvvv operand. -/
theorem usesVvvv_vex {c : Code} (h : (row c).space = .VEX) :
    (tableForm c).usesVvvv = false ↔ (row c).shape ∈ [Shape.R_RM_IB, .NONE] := by
  obtain ⟨hreg, hrm⟩ := (row_shape_vector c).1 h
  simp [tableForm_usesVvvv, hreg, hrm, or_iff_not_imp_left]

/-- R189: the EVEX rows without a vvvv operand. -/
theorem usesVvvv_evex {c : Code} (h : (row c).space = .EVEX) :
    (tableForm c).usesVvvv = false ↔ (row c).shape = .R_RM_IB := by
  obtain ⟨hreg, hrm, hnone⟩ := (row_shape_vector c).2 h
  simp [tableForm_usesVvvv, hreg, hrm, hnone]

/-- R191, R192: the causes that make masking illegal. -/
theorem EvexPrefix.maskLegal_eq_false_iff (m : MaskKind) (p : EvexPrefix) :
    p.maskLegal m = false ↔
      (m = .none ∧ (p.aaa ≠ 0 ∨ p.z = true)) ∨ (m = .k1 ∧ p.z = true) ∨ (p.z = true ∧ p.aaa = 0) := by
  rw [← Bool.not_eq_true', ← maskChecks_eq]
  simp only [Bool.or_eq_true, Bool.and_eq_true, decide_eq_true_eq, or_assoc]

/-- R199, R500: a record is no raise. -/
theorem completes_ne_raises (s : State) (vf : VectorFields) (r : Instruction) (e : DecodeError) :
    completes s vf r ≠ raises s e := by
  intro h
  injection h with h
  cases congrArg State.fsm h

/-- R199: a VEX or EVEX instruction raises `InvalidVexEvexEncoding` exactly where it is not legal. -/
theorem exec_raises_iff_not_legal {i : Instr} (s : State) (h : (row i.code).space ≠ .Legacy) :
    exec i s = raises s .InvalidVexEvexEncoding ↔ i.legal s.bitness = false := by
  obtain ⟨hok, hbad⟩ := execCompletesExactlyWhenLegal i s
  rw [if_neg h] at hbad
  refine ⟨fun hraise => Bool.eq_false_iff.mpr fun hlegal => ?_, hbad⟩
  obtain ⟨vf, r, hdone, -⟩ := hok hlegal
  exact completes_ne_raises s vf r _ (hdone.symm.trans hraise)

/-- R189: the cause that makes a VEX instruction illegal. -/
theorem Instr.not_legal_vex_iff (bt : Bitness) {i : Instr} (h : (row i.code).space = .VEX) :
    i.legal bt = false ↔ (row i.code).shape ∈ [Shape.R_RM_IB, .NONE] ∧ i.bundle.vex.vvvv ≠ 0 := by
  rw [← Bool.not_eq_true, Instr.legal_vex h, not_or, Bool.not_eq_true, usesVvvv_vex h]

/-- R189: the causes that make the vvvv field of an EVEX instruction illegal. -/
theorem Instr.not_vvvvLegal_evex_iff {i : Instr} (h : (row i.code).space = .EVEX) :
    i.vvvvLegal = false ↔ (row i.code).shape = .R_RM_IB ∧ (i.bundle.evex.vvvv ≠ 0 ∨ i.bundle.evex.Vp = true) := by
  rw [← Bool.not_eq_true, Instr.vvvvLegal_evex h, not_or, Bool.not_eq_true, usesVvvv_evex h, not_and_or,
    Bool.not_eq_false]

/-- R184, R187, R189, R191 to R193: the causes that make an EVEX instruction illegal, check by check. -/
theorem Instr.not_legal_evex_iff (bt : Bitness) {i : Instr} (h : (row i.code).space = .EVEX) :
    i.legal bt = false ↔
      (i.bundle.evex.b = true ∧ (i.bundle.rm.isReg = true ∨ (row i.code).bcst = none)) ∨
      i.vvvvLegal = false ∨ i.bundle.evex.maskLegal (row i.code).mask = false ∨
      ((row i.code).shape = .K_V_RM ∧ bt = .b64 ∧ (i.bundle.evex.R = true ∨ i.bundle.evex.Rp = true)) := by
  rw [← Bool.not_eq_true, Instr.legal_evex h]
  simp only [not_and_or, not_or, Bool.not_eq_true, Bool.not_eq_false, Option.isSome_eq_false_iff, Option.isNone_iff_eq_none,
    ne_eq, not_not]
  exact (or_congr_right or_left_comm).trans or_left_comm

/-- Settles O36: a raise is an illegality, and the causes of illegality are the listed ones. -/
theorem vectorFieldErrorsAreTheListed : Obligations.VectorFieldErrorsAreTheListed := by
  intro i s
  refine ⟨fun h => ?_, fun h => ?_⟩
  · rw [exec_raises_iff_not_legal s (by rw [h]; decide), Instr.not_legal_vex_iff _ h]
  · rw [exec_raises_iff_not_legal s (by rw [h]; decide), Instr.not_legal_evex_iff _ h, Instr.not_vvvvLegal_evex_iff h,
      EvexPrefix.maskLegal_eq_false_iff]
    simp only [or_assoc]

end Sys2Proof.Machine
end

section
/-! What the decoder sees of the window (spec/44_assembler.md R220, spec/20_memory.md R53): it reads the window through `PeekByte`
alone, which sees the first fifteen bytes. -/

namespace Sys2Proof.Machine

open Sys2Proof Sys2Proof.Spec

/-! ### The first fifteen bytes -/

/-- R53, R54: `PeekByte` sees the first fifteen bytes of the window. -/
theorem peekByte_congr_take {w v : List Byte} (h : w.take 15 = v.take 15) : peekByte w = peekByte v := by
  funext r
  unfold peekByte
  split
  · rfl
  · rename_i hpos
    have hlt : r.pos.val < 15 := Nat.lt_of_not_le hpos
    have hget : w[r.pos.val]? = v[r.pos.val]? := by
      rw [← List.getElem?_take_of_lt hlt, h, List.getElem?_take_of_lt hlt]
    rw [hget]

section
variable {w v : List Byte}

theorem readByte_congr (h : peekByte w = peekByte v) : readByte w = readByte v := by
  funext r
  simp only [readByte, h]

theorem prefixLoop_congr (h : peekByte w = peekByte v) (order : RexOrder) (bt : Bitness) (n : Nat) (r : Regs) :
    prefixLoop order bt w n r = prefixLoop order bt v n r := by
  induction n generalizing r with
  | zero => rfl
  | succ n ih => simp only [prefixLoop, readByte_congr h, ih]

/-- R101 to R123: the prefix scan reads the window through `PeekByte` alone. -/
theorem prefixScan_congr (h : peekByte w = peekByte v) (order : RexOrder) (bt : Bitness) (r : Regs) :
    prefixScan order bt w r = prefixScan order bt v r := by
  simp only [prefixScan, prefixLoop_congr h, escapeTaken, readEscape, readVex2, readVex3, readEvex, readByte_congr h, h]

/-- R130 to R142: the opcode lookup reads the window through `PeekByte` alone. -/
theorem opcodeLookup_congr (h : peekByte w = peekByte v) (r : Regs) : opcodeLookup w r = opcodeLookup v r := by
  simp only [opcodeLookup, readOpcode, readLegacyOpcode, readByte_congr h]

/-- R150 to R169: the ModRM state reads the window through `PeekByte` alone. -/
theorem modrmState_congr (h : peekByte w = peekByte v) (bt : Bitness) (r : Regs) :
    modrmState bt w r = modrmState bt v r := by
  simp only [modrmState, readOperands, readMemory, readSib, readDisp, readImm, readByte_congr h]

/-- R210: the decoder reads the window through `PeekByte` alone. -/
theorem decode_congr (h : peekByte w = peekByte v) (order : RexOrder) (bt : Bitness) :
    decode order bt w = decode order bt v := by
  simp only [decode, scanRegs, prefixScan_congr h, opcodeLookup_congr h, modrmState_congr h]

end

/-! ### From the decoder to the result -/

/-- R22: what the shared work ends with depends on the form and the pieces alone. -/
theorem complete_result_congr {f : Form} {p : Pieces} {s t s' : State} (h : complete f p s = .next s') :
    ∃ t', complete f p t = .next t' ∧ t'.result = s'.result := by
  unfold complete finish at h ⊢
  split at h
  · cases h
    rw [if_pos ‹_›]
    exact ⟨_, rfl, rfl⟩
  · rw [if_neg ‹_›]
    split at h
    · cases h
      exact ⟨_, rfl, rfl⟩
    · split at h
      · cases h
        rw [if_pos ‹_›]
        exact ⟨_, rfl, rfl⟩
      · cases h

/-- R22: what a meaning ends with depends on the instruction, the bitness and the cursor alone. -/
theorem exec_result_congr {i : Instr} {s t s' : State} (hbt : s.bitness = t.bitness) (hpos : s.regs.pos = t.regs.pos)
    (h : exec i s = .next s') : ∃ t', exec i t = .next t' ∧ t'.result = s'.result := by
  have hpieces : instrPieces i t = instrPieces i s := by simp only [instrPieces, piecesOf, hbt, hpos]
  rw [exec_eq_complete] at h ⊢
  rw [hpieces]
  exact complete_result_congr h

/-- R22, R222: where the decoder answers alike, transactions in one bitness end with the same result. -/
theorem step_result_of_decode_eq {s t s' : State} (hbt : s.bitness = t.bitness)
    (hd : decode t.rexOrder t.bitness t.window = decode s.rexOrder s.bitness s.window) (h : step s = .next s') :
    ∃ t', step t = .next t' ∧ t'.result = s'.result := by
  cases hs : decode s.rexOrder s.bitness s.window with
  | error st =>
    rw [step_of_decode_error s st hs] at h
    cases h
    exact ⟨_, step_of_decode_error t st (hd.trans hs), rfl⟩
  | ok v =>
    obtain ⟨i, r⟩ := v
    rw [step_of_decode_ok s i r hs] at h
    rw [step_of_decode_ok t i r (hd.trans hs)]
    exact exec_result_congr (s := s.decoded r) (t := t.decoded r) hbt rfl h

/-- Settles O5: `PeekByte` sees no other byte, so that the decoder answers alike. -/
theorem firstFifteenBytesDecideResult : Obligations.FirstFifteenBytesDecideResult := by
  intro s t s' t' hbt horder hwindow hs ht
  have hd : decode t.rexOrder t.bitness t.window = decode s.rexOrder s.bitness s.window := by
    rw [hbt, horder]
    exact decode_congr (peekByte_congr_take hwindow.symm) _ _
  obtain ⟨t'', ht'', hresult⟩ := step_result_of_decode_eq hbt hd hs
  rw [ht] at ht''
  cases ht''
  exact hresult.symm

end Sys2Proof.Machine
end

section
/-! How far the decoder sees (spec/20_memory.md R53 to R55, spec/44_assembler.md R221): an answer rests on the bytes before the
cursor, and an error other than `UnexpectedEof` is the same on every longer window. -/

namespace Sys2Proof.Machine

open Sys2Proof Sys2Proof.Spec

/-! ### Work that sees no further than its cursor -/

/-- R53: decode work that starts with the cursor at `p` and sees no byte past the cursor that it ends with: it moves the cursor
forward inside the window, gives the same answer on every window with the same bytes between the two cursors, and raises the
same error on every longer window, unless it is the end of the window that it raises. -/
structure SeesToCursor (f : List Byte → Dec Regs) (p : Nat) : Prop where
  pos : ∀ {w r}, f w = .ok r → p ≤ r.pos.val ∧ (r.pos.val = p ∨ r.pos.val ≤ w.length)
  ok : ∀ {w v r}, f w = .ok r → (∀ i, p ≤ i → i < r.pos.val → v[i]? = w[i]?) → f v = .ok r
  error : ∀ {w v st}, f w = .error st → st.err ≠ .UnexpectedEof → w <+: v → f v = .error st

/-- A byte of a window is there in every longer one. -/
theorem getElem?_of_prefix {w v : List Byte} (h : w <+: v) {i : Nat} (hi : i < w.length) : v[i]? = w[i]? := by
  rw [List.getElem?_eq_getElem hi]
  exact (List.prefix_iff_getElem?.mp h) i hi

/-- R53: an answer is the same on every longer window. -/
theorem SeesToCursor.ok_of_prefix {f : List Byte → Dec Regs} {p : Nat} (hf : SeesToCursor f p) {w v : List Byte} {r : Regs}
    (h : f w = .ok r) (hwv : w <+: v) : f v = .ok r := by
  obtain ⟨-, hend⟩ := hf.pos h
  exact hf.ok h fun i hp hi => getElem?_of_prefix hwv (by omega)

/-- Work that reads nothing. -/
theorem seesToCursor_ok (r : Regs) : SeesToCursor (fun _ => .ok r) r.pos.val where
  pos h := by cases h; exact ⟨Nat.le_refl _, .inl rfl⟩
  ok h _ := h
  error h := by cases h

/-- A raise that reads nothing. -/
theorem seesToCursor_raiseAt (e : DecodeError) (r : Regs) (p : Nat) : SeesToCursor (fun _ => raiseAt e r) p where
  pos h := by cases h
  ok h := by cases h
  error h _ _ := h

/-- R54: a longer window gives a peek the same answer. -/
theorem peekByte_ok_of_prefix {w v : List Byte} {r : Regs} {b : Byte} (hwv : w <+: v) (h : peekByte w r = .ok b) :
    peekByte v r = .ok b := by
  obtain ⟨hpos, hb⟩ := (peekByte_eq_ok w r b).mp h
  exact (peekByte_eq_ok v r b).mpr ⟨hpos, (getElem?_of_prefix hwv (List.getElem?_eq_some_iff.mp hb).1).trans hb⟩

/-- R54: a longer window gives a peek the same error, unless it is the end of the window. -/
theorem peekByte_error_of_prefix {w v : List Byte} {r : Regs} {st : Stop} (h : peekByte w r = .error st)
    (hne : st.err ≠ .UnexpectedEof) : peekByte v r = .error st := by
  obtain ⟨hpos, rfl⟩ | ⟨-, -, rfl⟩ := (peekByte_eq_error w r st).mp h
  · exact (peekByte_eq_error v r _).mpr (.inl ⟨hpos, rfl⟩)
  · exact absurd rfl hne

/-- R54: a peek before work that moves past the byte it saw, or raises. -/
theorem seesToCursor_peek {r : Regs} {f : Byte → List Byte → Dec Regs} (hf : ∀ b, SeesToCursor (f b) r.pos.val)
    (hpast : ∀ b w r', f b w = .ok r' → r.pos.val < r'.pos.val) :
    SeesToCursor (fun w => match peekByte w r with
      | .error st => .error st
      | .ok b => f b w) r.pos.val where
  pos {w r'} h := by
    split at h
    · cases h
    · exact (hf _).pos h
  ok {w v r'} h hv := by
    split at h
    · cases h
    · rename_i b hb
      obtain ⟨hlim, hget⟩ := (peekByte_eq_ok w r b).mp hb
      rw [(peekByte_eq_ok v r b).mpr ⟨hlim, (hv _ (Nat.le_refl _) (hpast b w r' h)).trans hget⟩]
      exact (hf b).ok h hv
  error {w v st} h hne hwv := by
    split at h
    · rename_i hst
      cases h
      rw [peekByte_error_of_prefix hst hne]
    · rename_i b hb
      rw [peekByte_ok_of_prefix hwv hb]
      exact (hf b).error h hne hwv

/-- R53: a byte read, and work that sees no further than its cursor. -/
theorem seesToCursor_read {r : Regs} {f : Byte → Regs → List Byte → Dec Regs}
    (hf : ∀ b r1, SeesToCursor (f b r1) r1.pos.val) :
    SeesToCursor (fun w => match readByte w r with
      | .error st => .error st
      | .ok (b, r1) => f b r1 w) r.pos.val where
  pos {w r'} h := by
    split at h
    · cases h
    · rename_i b r1 hr
      obtain ⟨hsucc, hlt⟩ := readByte_pos w r r1 b hr
      obtain ⟨hle, hend⟩ := (hf b r1).pos h
      omega
  ok {w v r'} h hv := by
    split at h
    · cases h
    · rename_i b r1 hr
      obtain ⟨hsucc, -⟩ := readByte_pos w r r1 b hr
      obtain ⟨hle, -⟩ := (hf b r1).pos h
      obtain ⟨hlim, hb, hr1⟩ := (readByte_eq_ok w r r1 b).mp hr
      rw [(readByte_eq_ok v r r1 b).mpr ⟨hlim, (hv _ (Nat.le_refl _) (by omega)).trans hb, hr1⟩]
      exact (hf b r1).ok h fun i hi => hv i (by omega)
  error {w v st} h hne hwv := by
    split at h
    · rename_i hr
      cases h
      rw [(readByte_eq_error v r st).mpr (peekByte_error_of_prefix ((readByte_eq_error w r st).mp hr) hne)]
    · rename_i b r1 hr
      obtain ⟨hlim, hb, hr1⟩ := (readByte_eq_ok w r r1 b).mp hr
      have hlt : r.pos.val < w.length := (List.getElem?_eq_some_iff.mp hb).1
      rw [(readByte_eq_ok v r r1 b).mpr ⟨hlim, (getElem?_of_prefix hwv hlt).trans hb, hr1⟩]
      exact (hf b r1).error h hne hwv

/-- Two pieces of work in turn. -/
theorem seesToCursor_then {p : Nat} {d : List Byte → Dec Regs} {f : Regs → List Byte → Dec Regs} (hd : SeesToCursor d p)
    (hf : ∀ r1, SeesToCursor (f r1) r1.pos.val) :
    SeesToCursor (fun w => match d w with
      | .error st => .error st
      | .ok r1 => f r1 w) p where
  pos {w r'} h := by
    split at h
    · cases h
    · rename_i r1 hr
      have := hd.pos hr
      have := (hf r1).pos h
      omega
  ok {w v r'} h hv := by
    split at h
    · cases h
    · rename_i r1 hr
      obtain ⟨hp, -⟩ := hd.pos hr
      obtain ⟨hle, -⟩ := (hf r1).pos h
      rw [hd.ok hr fun i hi hlt => hv i hi (Nat.lt_of_lt_of_le hlt hle)]
      exact (hf r1).ok h fun i hi => hv i (Nat.le_trans hp hi)
  error {w v st} h hne hwv := by
    split at h
    · rename_i hr
      cases h
      rw [hd.error hr hne hwv]
    · rename_i r1 hr
      rw [hd.ok_of_prefix hr hwv]
      exact (hf r1).error h hne hwv

/-! ### The parts of the decoder -/

theorem prefixLoop_seesToCursor (order : RexOrder) (bt : Bitness) (n : Nat) (r : Regs) :
    SeesToCursor (fun w => prefixLoop order bt w n r) r.pos.val := by
  induction n generalizing r with
  | zero => exact seesToCursor_raiseAt ..
  | succ n ih =>
    refine seesToCursor_read fun b r1 => ?_
    split
    · exact ih _
    · split
      · split
        · exact ih _
        · exact seesToCursor_read fun b0 r2 => seesToCursor_ok _
      · exact seesToCursor_ok _

theorem readVex2_seesToCursor (bt : Bitness) (r : Regs) : SeesToCursor (fun w => readVex2 bt w r) r.pos.val :=
  seesToCursor_read fun _ _ => seesToCursor_ok _

theorem readVex3_seesToCursor (bt : Bitness) (r : Regs) : SeesToCursor (fun w => readVex3 bt w r) r.pos.val := by
  refine seesToCursor_read fun p1 r1 => seesToCursor_read fun p2 r2 => ?_
  split
  · exact seesToCursor_raiseAt ..
  · exact seesToCursor_ok _

theorem readEvex_seesToCursor (bt : Bitness) (r : Regs) : SeesToCursor (fun w => readEvex bt w r) r.pos.val := by
  refine seesToCursor_read fun P0 r1 => seesToCursor_read fun P1 r2 => seesToCursor_read fun P2 r3 => ?_
  split
  · exact seesToCursor_ok _
  · exact seesToCursor_raiseAt ..
  · exact seesToCursor_raiseAt ..

theorem readEscape_seesToCursor (bt : Bitness) (b0 : Byte) (r : Regs) :
    SeesToCursor (fun w => readEscape bt w b0 r) r.pos.val := by
  unfold readEscape
  split
  · exact seesToCursor_raiseAt ..
  · split
    · exact readVex2_seesToCursor bt r
    · split
      · exact readVex3_seesToCursor bt r
      · exact readEvex_seesToCursor bt r

theorem readLegacyOpcode_seesToCursor (r : Regs) : SeesToCursor (fun w => readLegacyOpcode w r) r.pos.val := by
  refine seesToCursor_read fun o2 r1 => ?_
  split
  · exact seesToCursor_read fun _ _ => seesToCursor_ok _
  · split
    · exact seesToCursor_read fun _ _ => seesToCursor_ok _
    · exact seesToCursor_ok _

theorem readOpcode_seesToCursor (r : Regs) : SeesToCursor (fun w => readOpcode w r) r.pos.val := by
  unfold readOpcode
  split
  · split
    · exact readLegacyOpcode_seesToCursor r
    · exact seesToCursor_raiseAt ..
  · exact seesToCursor_read fun _ _ => seesToCursor_ok _

/-- R132 to R134: the lookup reads no byte. -/
theorem lookupEntry_seesToCursor (r : Regs) : SeesToCursor (fun _ => lookupEntry r) r.pos.val where
  pos {w r'} h := by
    obtain ⟨-, -, ⟨-, rfl⟩ | ⟨-, f, -, rfl⟩⟩ := lookupEntry_ok r r' h <;> exact ⟨Nat.le_refl _, .inl rfl⟩
  ok h _ := h
  error h _ _ := h

theorem opcodeLookup_seesToCursor (r : Regs) : SeesToCursor (fun w => opcodeLookup w r) r.pos.val :=
  seesToCursor_then (readOpcode_seesToCursor r) lookupEntry_seesToCursor

theorem readSib_seesToCursor (as : AddrSize) (rm : BitVec 3) (r : Regs) :
    SeesToCursor (fun w => readSib w as rm r) r.pos.val := by
  unfold readSib
  split
  · exact seesToCursor_read fun _ _ => seesToCursor_ok _
  · exact seesToCursor_ok r

theorem readImm_seesToCursor (has : Bool) (r : Regs) : SeesToCursor (fun w => readImm w has r) r.pos.val := by
  unfold readImm
  split
  · exact seesToCursor_read fun _ _ => seesToCursor_ok _
  · exact seesToCursor_ok r

theorem readDisp_seesToCursor (size : Nat) (r : Regs) : SeesToCursor (fun w => readDisp w size r) r.pos.val := by
  unfold readDisp
  split
  · exact seesToCursor_read fun _ _ => seesToCursor_ok _
  · exact seesToCursor_read fun _ _ => seesToCursor_read fun _ _ => seesToCursor_ok _
  · exact seesToCursor_read fun _ _ => seesToCursor_read fun _ _ => seesToCursor_read fun _ _ =>
      seesToCursor_read fun _ _ => seesToCursor_ok _
  · exact seesToCursor_ok r

theorem readMemory_seesToCursor (bt : Bitness) (m : Byte) (r : Regs) :
    SeesToCursor (fun w => readMemory bt w m r) r.pos.val :=
  seesToCursor_then (readSib_seesToCursor _ _ r) fun _ => readDisp_seesToCursor ..

theorem readOperands_seesToCursor (bt : Bitness) (m : Byte) (sh : Shape) (r : Regs) :
    SeesToCursor (fun w => readOperands bt w m sh r) r.pos.val := by
  unfold readOperands
  split
  · exact readImm_seesToCursor _ r
  · split
    · exact seesToCursor_raiseAt ..
    · exact seesToCursor_then (readMemory_seesToCursor bt m r) (readImm_seesToCursor _)

theorem modrmState_seesToCursor (bt : Bitness) (r : Regs) : SeesToCursor (fun w => modrmState bt w r) r.pos.val := by
  refine seesToCursor_read fun m r1 => ?_
  split
  · exact seesToCursor_raiseAt ..
  · split
    · exact seesToCursor_raiseAt ..
    · exact readOperands_seesToCursor ..

/-! ### The escape test

R108: the test may peek at a byte that the prefix scan does not read; the opcode lookup after it always reads it. -/

/-- R123, R142: the work from the escape test's answer to the end of the opcode lookup. -/
def openedOpcode (bt : Bitness) (r : Regs) (taken : Bool) (w : List Byte) : Dec Regs :=
  match (if taken then readEscape bt w (r.b0.getD 0) r else .ok { r with ps := legacyEnd r.ps }) with
  | .error st => .error st
  | .ok r1 => opcodeLookup w r1

/-- R106 to R142: the work from the end of the prefix loop to the end of the opcode lookup. -/
def testedOpcode (bt : Bitness) (r : Regs) (w : List Byte) : Dec Regs :=
  match escapeTaken bt w (r.b0.getD 0) r with
  | .error st => .error st
  | .ok taken => openedOpcode bt r taken w

/-- R100 to R142: the work of `PrefixScan` and `OpcodeLookup`. -/
def scanOpcode (order : RexOrder) (bt : Bitness) (w : List Byte) : Dec Regs :=
  match prefixLoop order bt w (Config.maxLen + 1) Regs.initial with
  | .error st => .error st
  | .ok r => testedOpcode bt r w

/-- R210: the scan: `PrefixScan` and `OpcodeLookup`, and `ModRM` where it follows. -/
theorem scanRegs_eq_scanOpcode (order : RexOrder) (bt : Bitness) (w : List Byte) :
    scanRegs order bt w =
      match scanOpcode order bt w with
      | .error st => .error st
      | .ok r => if needsModRM (r.entry.getD []) then modrmState bt w r else .ok r := by
  unfold scanRegs prefixScan scanOpcode
  cases prefixLoop order bt w (Config.maxLen + 1) Regs.initial with
  | error st => rfl
  | ok r =>
    simp only [testedOpcode]
    cases escapeTaken bt w (r.b0.getD 0) r with
    | error st => rfl
    | ok taken =>
      cases taken with
      | false => rfl
      | true =>
        simp only [openedOpcode, if_true]
        cases readEscape bt w (r.b0.getD 0) r <;> rfl

theorem openedOpcode_seesToCursor (bt : Bitness) (r : Regs) (taken : Bool) :
    SeesToCursor (openedOpcode bt r taken) r.pos.val := by
  cases taken with
  | false => exact opcodeLookup_seesToCursor _
  | true => exact seesToCursor_then (readEscape_seesToCursor bt _ r) opcodeLookup_seesToCursor

/-- R130: the opcode lookup reads at least one byte. -/
theorem openedOpcode_pos_lt {bt : Bitness} {r r' : Regs} {taken : Bool} {w : List Byte}
    (h : openedOpcode bt r taken w = .ok r') : r.pos.val < r'.pos.val := by
  cases taken with
  | false => exact opcodeLookup_pos_lt (r := { r with ps := legacyEnd r.ps }) h
  | true =>
    unfold openedOpcode at h
    split at h
    · cases h
    · rename_i r1 hr
      exact Nat.lt_of_le_of_lt ((readEscape_seesToCursor bt _ r).pos hr).1 (opcodeLookup_pos_lt h)

/-- R106 to R108: the escape test answers at once, or by the byte at the cursor. -/
theorem testedOpcode_cases (bt : Bitness) (r : Regs) :
    (∃ taken, testedOpcode bt r = openedOpcode bt r taken) ∨
      testedOpcode bt r = fun w => match peekByte w r with
        | .error st => .error st
        | .ok p => openedOpcode bt r (decide (p.extractLsb' 6 2 = 3)) w := by
  unfold testedOpcode escapeTaken
  cases isEscapeByte (r.b0.getD 0) with
  | false => exact .inl ⟨false, rfl⟩
  | true =>
    cases bt with
    | b64 => exact .inl ⟨true, rfl⟩
    | b16 | b32 =>
      refine .inr (funext fun w => ?_)
      cases peekByte w r <;> rfl

theorem testedOpcode_seesToCursor (bt : Bitness) (r : Regs) : SeesToCursor (testedOpcode bt r) r.pos.val := by
  obtain ⟨taken, h⟩ | h := testedOpcode_cases bt r
  · rw [h]
    exact openedOpcode_seesToCursor bt r taken
  · rw [h]
    exact seesToCursor_peek (fun _ => openedOpcode_seesToCursor ..) fun _ _ _ => openedOpcode_pos_lt

/-! ### The decoder -/

/-- R53, R210: the scan sees no further than its cursor. -/
theorem scanRegs_seesToCursor (order : RexOrder) (bt : Bitness) : SeesToCursor (scanRegs order bt) 0 := by
  rw [funext (scanRegs_eq_scanOpcode order bt)]
  refine seesToCursor_then (seesToCursor_then (prefixLoop_seesToCursor ..) (testedOpcode_seesToCursor bt)) fun r => ?_
  split
  · exact modrmState_seesToCursor bt r
  · exact seesToCursor_ok r

section
variable {order : RexOrder} {bt : Bitness} {w v : List Byte}

/-- R55: a decode ends with the cursor inside the window. -/
theorem decode_ok_pos_le {i : Instr} {r : Regs} (h : decode order bt w = .ok (i, r)) : r.pos.val ≤ w.length := by
  obtain ⟨hscan, -⟩ := (decode_eq_ok order bt w i r).mp h
  obtain ⟨-, hzero | hle⟩ := (scanRegs_seesToCursor order bt).pos hscan
  · exact hzero.le.trans (Nat.zero_le _)
  · exact hle

/-- R221: a decode depends on no byte from the cursor on. -/
theorem decode_ok_of_take_eq {i : Instr} {r : Regs} (h : decode order bt w = .ok (i, r))
    (hv : v.take r.pos.val = w.take r.pos.val) : decode order bt v = .ok (i, r) := by
  obtain ⟨hscan, hpick⟩ := (decode_eq_ok order bt w i r).mp h
  refine (decode_eq_ok order bt v i r).mpr ⟨(scanRegs_seesToCursor order bt).ok hscan fun k _ hk => ?_, hpick⟩
  rw [← List.getElem?_take_of_lt hk, hv, List.getElem?_take_of_lt hk]

/-- R221: a decode is the same on every longer window. -/
theorem decode_ok_of_prefix {i : Instr} {r : Regs} (h : decode order bt w = .ok (i, r)) (hwv : w <+: v) :
    decode order bt v = .ok (i, r) := by
  obtain ⟨hscan, hpick⟩ := (decode_eq_ok order bt w i r).mp h
  exact (decode_eq_ok order bt v i r).mpr ⟨(scanRegs_seesToCursor order bt).ok_of_prefix hscan hwv, hpick⟩

/-- R221: an error other than the end of the window is the same on every longer window. -/
theorem decode_error_of_prefix {st : Stop} (h : decode order bt w = .error st) (hne : st.err ≠ .UnexpectedEof)
    (hwv : w <+: v) : decode order bt v = .error st := by
  unfold decode at h ⊢
  split at h
  · rename_i hscan
    cases h
    rw [(scanRegs_seesToCursor order bt).error hscan hne hwv]
  · rename_i r hscan
    rw [(scanRegs_seesToCursor order bt).ok_of_prefix hscan hwv]
    exact h

end

/-! ### The transaction -/

/-- R55, R212: a record comes from a decode, and its length is the cursor. -/
theorem decode_of_step_ok {s t : State} {insn : Instruction} (h : step s = .next t) (hres : t.result = .Ok insn) :
    ∃ i r, decode s.rexOrder s.bitness s.window = .ok (i, r) ∧ insn.byteLength = r.pos := by
  obtain ⟨st, -, hs⟩ | ⟨i, r, hd, ⟨e, hs⟩ | ⟨vf, -, hs⟩⟩ := step_cases s
  · rw [hs] at h; cases h; cases hres
  · rw [hs] at h; cases h; cases hres
  · rw [hs] at h; cases h; cases hres
    exact ⟨i, r, hd, assemble_byteLength _ _⟩

/-- R221: bytes appended to the window change no answer of the decoder, unless it is the end of the window. -/
theorem decode_of_step_of_prefix {s t s' : State} (hbt : s.bitness = t.bitness) (horder : s.rexOrder = t.rexOrder)
    (hwindow : s.window <+: t.window) (h : step s = .next s') (hne : s'.result ≠ .Err .UnexpectedEof) :
    decode t.rexOrder t.bitness t.window = decode s.rexOrder s.bitness s.window := by
  rw [← hbt, ← horder]
  cases hd : decode s.rexOrder s.bitness s.window with
  | ok v =>
    obtain ⟨i, r⟩ := v
    exact decode_ok_of_prefix hd hwindow
  | error st =>
    rw [step_of_decode_error s st hd] at h
    cases h
    exact decode_error_of_prefix hd (fun he => hne (congrArg DecodeResult.Err he)) hwindow

/-- Settles O6: an answer rests on the bytes before the cursor, an error other than the end of the window on bytes that the
longer window has too; `0F` alone ends too early and `0F 77` does not. -/
theorem appendedBytesKeepResult : Obligations.AppendedBytesKeepResult := by
  refine ⟨fun s t s' suffix hbt horder hwindow hs hne => ?_, fun s t s' insn hbt horder hs hres hwindow => ?_, ?_⟩
  · have hprefix : s.window <+: t.window := ⟨suffix, hwindow.symm⟩
    exact step_result_of_decode_eq hbt (decode_of_step_of_prefix hbt horder hprefix hs hne) hs
  · obtain ⟨i, r, hd, hlen⟩ := decode_of_step_ok hs hres
    rw [hlen] at hwindow
    rw [← hres]
    refine step_result_of_decode_eq hbt ?_ hs
    rw [hd, ← hbt, ← horder]
    exact decode_ok_of_take_eq hd hwindow
  · exact ⟨{ State.reset with buffer := Memory.ofBytes [0x0F] }, { State.reset with buffer := Memory.ofBytes [0x0F, 0x77] },
      _, _, [0x77], rfl, rfl, rfl, rfl, rfl, rfl, nofun⟩

end Sys2Proof.Machine
end

section
/-! What the registers hold when the scan has ended (spec/44_assembler.md R210): `ps` is the prefix state of an instruction, `fam`
the family that its key, ModRM.reg and W select, and the operand registers those of the rm operand that they name. -/

namespace Sys2Proof.Machine

open Sys2Proof Sys2Proof.Spec

/-! ### What each state leaves as it is -/

/-- R100 to R124: the prefix scan writes the cursor, `ps` and `b0` alone. -/
theorem prefixScan_frame {order : RexOrder} {bt : Bitness} {w : List Byte} {r r' : Regs}
    (h : prefixScan order bt w r = .ok r') : r' = { r with pos := r'.pos, ps := r'.ps, b0 := r'.b0 } := by
  obtain ⟨r1, t, hloop, -, ⟨-, hesc⟩ | ⟨-, rfl⟩⟩ := prefixScan_ok order bt w r r' h
  · obtain ⟨b, hr1, -⟩ := prefixLoop_ok order bt w _ r r1 hloop
    rw [hr1] at hesc
    obtain ⟨-, ⟨-, hread⟩ | ⟨-, hread⟩ | ⟨-, -, hread⟩⟩ := readEscape_ok bt w _ _ r' hesc
    · obtain ⟨p1, -, -, rfl⟩ := (readVex2_ok bt w _ r').mp hread; rfl
    · obtain ⟨p1, p2, m, -, -, -, -, rfl⟩ := readVex3_ok bt w _ r' hread; rfl
    · obtain ⟨P0, P1, P2, m, -, -, -, -, -, -, rfl⟩ := readEvex_ok bt w _ r' hread; rfl
  · obtain ⟨b, hr1, -⟩ := prefixLoop_ok order bt w _ r r1 hloop
    rw [hr1]

/-- R150 to R169: the operand bytes after ModRM change the cursor and the operand registers alone. -/
theorem readOperands_frame {bt : Bitness} {w : List Byte} {m : Byte} {sh : Shape} {r r' : Regs}
    (h : readOperands bt w m sh r = .ok r') :
    r' = { r with pos := r'.pos, sib := r'.sib, dispRaw := r'.dispRaw, dispSize := r'.dispSize, imm := r'.imm, md := r'.md } := by
  have himm {r1 : Regs} (h : readImm w sh.hasImm8 r1 = .ok r') : r' = { r1 with pos := r'.pos, imm := r'.imm } := by
    obtain ⟨-, b, -, -, rfl⟩ | ⟨-, rfl⟩ := readImm_ok w _ r1 r' h <;> rfl
  obtain ⟨-, h⟩ | ⟨-, -, r1, hmem, h⟩ := readOperands_ok bt w m sh r r' h
  · rw [himm h]
  · obtain ⟨r2, hsib, hdisp⟩ := readMemory_ok bt w m r r1 hmem
    obtain ⟨hr1, -⟩ := readDisp_ok w _ _ r1 (dispSizeOf_mem ..) hdisp
    rw [himm h, hr1]
    obtain ⟨-, b, -, -, rfl⟩ | ⟨-, rfl⟩ := readSib_ok w _ _ r r2 hsib <;> rfl

/-! ### The prefix state -/

/-- R111 to R119: the prefix states of VEX and EVEX instructions. -/
def IsEscapeState (bt : Bitness) (ps : PrefixState) : Prop :=
  (∃ m mp L p, ps = vexState bt m mp L p) ∨ ∃ m mp ll p, ps = evexPrefixState bt m mp ll p

/-- R100 to R130: the prefix states of instructions: what a scan leaves in `ps`. -/
def IsInstrState (bt : Bitness) (ps : PrefixState) : Prop := (∃ m p, ps = legacyState m p) ∨ IsEscapeState bt ps

/-- R107: a VEX or EVEX instruction is not in legacy space. -/
theorem IsEscapeState.space_ne {bt : Bitness} {ps : PrefixState} (h : IsEscapeState bt ps) : ps.space ≠ .Legacy := by
  obtain ⟨m, mp, L, p, rfl⟩ | ⟨m, mp, ll, p, rfl⟩ := h
  · rw [vexState_eq]
    cases p.three <;> exact nofun
  · rw [evexPrefixState_eq]
    exact nofun

/-- R102, R103: the prefix states in which the prefix loop alone has written. -/
def LoopFields (ps : PrefixState) : Prop :=
  ps = { PrefixState.initial with
    seg := ps.seg, opsize := ps.opsize, adsize := ps.adsize, lock := ps.lock, rep := ps.rep, rex := ps.rex }

/-- R103: a byte 40 to 4F is its low four bits behind 4. -/
theorem rexByte_eq {x : Byte} (h : x.extractLsb' 4 4 = (4 : BitVec 4)) : (4 : BitVec 4) ++ x.extractLsb' 0 4 = x := by
  revert x; decide

/-- R119: the two bits that stand for a mandatory prefix stand for no other. -/
theorem mpKeyBits_ppMp (pp : BitVec 2) : mpKeyBits (ppMp pp) = pp := by revert pp; decide

/-- R104, R118, R130: the end of a legacy scan, once the map is known, is the prefix state of a legacy instruction. -/
theorem legacyEnd_isInstrState (bt : Bitness) {ps : PrefixState} (m : OpMap) (hps : LoopFields ps)
    (hrex : ∀ b, ps.rex = some b → b.extractLsb' 4 4 = (4 : BitVec 4)) :
    IsInstrState bt { legacyEnd ps with map := some m } := by
  refine .inl ⟨m, legacyOf ps, ?_⟩
  have hback : (ps.rex.map fun b => b.extractLsb' 0 4).map (fun v => (4 : BitVec 4) ++ v) = ps.rex := by
    cases h : ps.rex with
    | none => rfl
    | some b => exact congrArg some (rexByte_eq (hrex b h))
  have hstate : legacyState m (legacyOf ps) = legacyEnd { ps with map := some m } := by
    conv_rhs => rw [show ps = _ from hps]
    simp only [legacyState, legacyOf, hback]
  rw [hstate]
  unfold legacyEnd
  cases ps.rex <;> rfl

/-- R109, R110: what may stand before an escape: a segment prefix and 67. -/
theorem eq_of_not_badBeforeEscape {ps : PrefixState} (hps : LoopFields ps) (hbad : badBeforeEscape ps = false) :
    ∃ seg adsize, ps = { PrefixState.initial with seg := seg, adsize := adsize } := by
  simp only [badBeforeEscape, Bool.or_eq_false_iff, Option.isSome_eq_false_iff, Option.isNone_iff_eq_none] at hbad
  obtain ⟨⟨⟨hrex, hopsize⟩, hrep⟩, hlock⟩ := hbad
  rw [LoopFields, hrex, hopsize, hrep, hlock] at hps
  exact ⟨_, _, hps⟩

/-- R109 to R119: a payload gives the prefix state of a VEX or EVEX instruction. -/
theorem readEscape_isEscapeState {bt : Bitness} {w : List Byte} {b0 : Byte} {r r' : Regs}
    (hps : LoopFields r.ps) (h : readEscape bt w b0 r = .ok r') : IsEscapeState bt r'.ps := by
  obtain ⟨hbad, hread⟩ := readEscape_ok bt w b0 r r' h
  obtain ⟨seg, adsize, hfree⟩ := eq_of_not_badBeforeEscape hps hbad
  obtain ⟨-, hread⟩ | ⟨-, hread⟩ | ⟨-, -, hread⟩ := hread
  · obtain ⟨p1, -, -, rfl⟩ := (readVex2_ok bt w r r').mp hread
    refine .inl ⟨.m0F, ppMp (p1.extractLsb' 0 2), p1.getLsbD 2, { VexPrefix.none with
      seg := seg, adsize := adsize, R := !p1.getLsbD 7, vvvv := ~~~(p1.extractLsb' 3 4) }, ?_⟩
    simp only [vexState, mpKeyBits_ppMp, hfree]
    rfl
  · obtain ⟨p1, p2, m, -, -, -, -, rfl⟩ := readVex3_ok bt w r r' hread
    refine .inl ⟨m, ppMp (p2.extractLsb' 0 2), p2.getLsbD 2, { VexPrefix.none with
      seg := seg, adsize := adsize, three := true, W := p2.getLsbD 7, R := !p1.getLsbD 7, X := !p1.getLsbD 6,
      B := !p1.getLsbD 5, vvvv := ~~~(p2.extractLsb' 3 4) }, ?_⟩
    simp only [vexState, mpKeyBits_ppMp, hfree]
    rfl
  · obtain ⟨P0, P1, P2, m, -, -, -, -, -, -, rfl⟩ := readEvex_ok bt w r r' hread
    refine .inr ⟨m, ppMp (P1.extractLsb' 0 2), P2.extractLsb' 5 2, {
      seg := seg, adsize := adsize, W := P1.getLsbD 7, R := !P0.getLsbD 7, X := !P0.getLsbD 6, B := !P0.getLsbD 5,
      Rp := !P0.getLsbD 4, Vp := !P2.getLsbD 3, vvvv := ~~~(P1.extractLsb' 3 4), z := P2.getLsbD 7, b := P2.getLsbD 4,
      aaa := P2.extractLsb' 0 3 }, ?_⟩
    simp only [evexPrefixState, mpKeyBits_ppMp, hfree]
    rfl

/-- R130: which opcode bytes follow the prefix scan: after a legacy scan `0F` and then the map; after a payload the opcode. -/
theorem readOpcode_map {w : List Byte} {r r' : Regs} (h : readOpcode w r = .ok r') :
    (r.ps.space = .Legacy ∧ r.b0 = some 0x0F ∧ ∃ m, r'.ps.map = some m) ∨
      (r.ps.space ≠ .Legacy ∧ r'.ps.map = r.ps.map) := by
  unfold readOpcode at h
  split at h
  · rename_i hspace
    split at h
    · rename_i hb0
      refine .inl ⟨hspace, hb0, ?_⟩
      unfold readLegacyOpcode at h
      split at h
      · cases h
      · split at h
        · split at h
          · cases h
          · rename_i hr
            obtain ⟨-, -, rfl⟩ := (readByte_eq_ok _ _ _ _).mp hr
            cases h; exact ⟨_, rfl⟩
        · split at h
          · split at h
            · cases h
            · rename_i hr
              obtain ⟨-, -, rfl⟩ := (readByte_eq_ok _ _ _ _).mp hr
              cases h; exact ⟨_, rfl⟩
          · cases h; exact ⟨_, rfl⟩
    · cases h
  · rename_i hspace
    refine .inr ⟨hspace, ?_⟩
    split at h
    · cases h
    · rename_i hr
      obtain ⟨-, -, rfl⟩ := (readByte_eq_ok _ _ _ _).mp hr
      cases h; rfl

/-- R100 to R130: after the opcode bytes, `ps` is the prefix state of an instruction. -/
theorem isInstrState_of_opcode {order : RexOrder} {bt : Bitness} {w : List Byte} {r r' : Regs}
    (hscan : prefixScan order bt w Regs.initial = .ok r) (hopc : readOpcode w r = .ok r') : IsInstrState bt r'.ps := by
  obtain ⟨o, hr', -⟩ := readOpcode_ok w r r' hopc
  have hps' : r'.ps = { r.ps with map := r'.ps.map } := by rw [hr']
  obtain ⟨r1, t, hloop, -, hend⟩ := prefixScan_ok order bt w _ r hscan
  obtain ⟨b, -, hps, -⟩ := prefixLoop_ok order bt w _ _ r1 hloop
  obtain ⟨-, hesc⟩ | ⟨-, rfl⟩ := hend
  · have hstate := readEscape_isEscapeState hps hesc
    obtain ⟨hspace, -⟩ | ⟨-, hmap⟩ := readOpcode_map hopc
    · exact absurd hspace hstate.space_ne
    · rw [hmap] at hps'
      rw [hps']
      exact .inr hstate
  · obtain ⟨-, -, m, hmap⟩ | ⟨hspace, -⟩ := readOpcode_map hopc
    · have hrange := prefixLoop_inRange order bt w (Config.maxLen + 1) _ Regs.initial_inRange
      rw [hloop] at hrange
      obtain ⟨hrex, -⟩ := (Regs.inRange_iff r1).mp hrange
      rw [hps', hmap]
      exact legacyEnd_isInstrState bt m hps hrex
    · exact absurd (by rw [legacyEnd_eq]) hspace

/-! ### The operands -/

/-- R162: what is read of a displacement is its sign-extended value. -/
theorem readDisp_disp {w : List Byte} {size : Nat} {r r' : Regs} (h : readDisp w size r = .ok r')
    (hs : size ∈ [0, 1, 2, 4]) (hraw : r.dispRaw = 0) : ∃ d, dispSize d = size ∧ dispRaw d = r'.dispRaw := by
  simp only [List.mem_cons, List.not_mem_nil, or_false] at hs
  rcases hs with rfl | rfl | rfl | rfl
  · cases h
    exact ⟨.none, rfl, hraw.symm⟩
  · simp only [readDisp] at h
    split at h
    · cases h
    · cases h
      exact ⟨.d8 _, rfl, rfl⟩
  · simp only [readDisp] at h
    split at h
    · cases h
    · split at h
      · cases h
      · cases h
        exact ⟨.d16 _, rfl, rfl⟩
  · simp only [readDisp] at h
    split at h
    · cases h
    · split at h
      · cases h
      · split at h
        · cases h
        · split at h
          · cases h
          · cases h
            exact ⟨.d32 _, rfl, rfl⟩

/-- R26 to R28, R169: the operand registers are those of the rm operand that they name, and the imm8 is held where the shape
has one. -/
structure HoldOperands (bt : Bitness) (sh : Shape) (r : Regs) : Prop where
  md : r.md = rmWork bt r.ps (rmOf r)
  size : r.dispSize = dispSize (rmDisp (rmOf r))
  raw : r.dispRaw = dispRaw (rmDisp (rmOf r))
  imm : r.imm.isSome = sh.hasImm8
  modrm : sh = .NONE → r.modrm = none
  only : sh.rmRegOnly = true → (rmOf r).isReg = true

/-- R167: after the imm8, the operand registers hold the operands that were read, and the imm8. -/
theorem readImm_holdOperands {bt : Bitness} {w : List Byte} {sh : Shape} {r r' : Regs} (himm : r.imm = none)
    (hmd : r.md = rmWork bt r.ps (rmOf r)) (hsize : r.dispSize = dispSize (rmDisp (rmOf r)))
    (hraw : r.dispRaw = dispRaw (rmDisp (rmOf r))) (hmodrm : sh = .NONE → r.modrm = none)
    (honly : sh.rmRegOnly = true → (rmOf r).isReg = true) (h : readImm w sh.hasImm8 r = .ok r') : HoldOperands bt sh r' := by
  obtain ⟨hhas, b, -, -, rfl⟩ | ⟨hhas, rfl⟩ := readImm_ok w _ r r' h
  · exact ⟨hmd, hsize, hraw, hhas.symm, hmodrm, honly⟩
  · exact ⟨hmd, hsize, hraw, by rw [himm, hhas]; rfl, hmodrm, honly⟩

/-- R150 to R169: the operand bytes after ModRM leave the operand registers of the rm operand. -/
theorem readOperands_holdOperands {bt : Bitness} {w : List Byte} {m : Byte} {sh : Shape} {r r' : Regs}
    (h : readOperands bt w m sh r = .ok r') (hfresh : r.fresh) (hm : r.modrm = some m) (hsh : sh ≠ .NONE) :
    HoldOperands bt sh r' := by
  obtain ⟨-, hmd, hsize, hraw, himm⟩ := hfresh
  obtain ⟨hmod, h⟩ | ⟨hmod, honly, r1, hmem, h⟩ := readOperands_ok bt w m sh r r' h
  · have hrm : rmOf r = .reg (rmField m) := by simp only [rmOf, hm, if_pos hmod]
    refine readImm_holdOperands himm ?_ ?_ ?_ (absurd · hsh) (fun _ => ?_) h
    · rw [hrm]; exact hmd
    · rw [hrm]; exact hsize
    · rw [hrm]; exact hraw
    · rw [hrm]; rfl
  · obtain ⟨r2, hsib, hdisp⟩ := readMemory_ok bt w m r r1 hmem
    have hr2 : r2 = { r with pos := r2.pos, sib := r2.sib } := by
      obtain ⟨-, b, -, -, rfl⟩ | ⟨-, rfl⟩ := readSib_ok w _ _ r r2 hsib <;> rfl
    have hps : r2.ps = r.ps := by rw [hr2]
    have hmodrm : r2.modrm = some m := by rw [hr2, ← hm]
    have hraw2 : r2.dispRaw = 0 := by rw [hr2]; exact hraw
    obtain ⟨hr1, -⟩ := readDisp_ok w _ _ r1 (dispSizeOf_mem ..) hdisp
    obtain ⟨d, hdsize, hdraw⟩ := readDisp_disp hdisp (dispSizeOf_mem ..) hraw2
    have hrm : rmOf r1 = .mem (modField m) (rmField m) r2.sib d := by
      rw [← dispOf_dispRaw d, hdsize, hdraw, hr1]
      simp only [rmOf, hmodrm, if_neg hmod]
    refine readImm_holdOperands (r := r1) ?_ ?_ ?_ ?_ (absurd · hsh) (fun h => ?_) h
    · rw [hr1, hr2]; exact himm
    · rw [hrm, hr1]; rfl
    · rw [hrm, hr1]; exact hdsize.symm
    · rw [hrm]; exact hdraw.symm
    · rw [honly] at h; cases h

end Sys2Proof.Machine
end

section
/-! From the registers at the end of the scan to the instruction (spec/44_assembler.md R210, R211): the family that the scan
selects, and the instruction built from the registers, whose pieces are the registers themselves. -/

namespace Sys2Proof.Machine

open Sys2Proof Sys2Proof.Spec

/-! ### The family -/

/-- R142, R210: the registers at the end of a scan that selected `fam`. -/
structure Scanned (bt : Bitness) (fam : List Code) (r : Regs) : Prop where
  state : IsInstrState bt r.ps
  noLock : r.ps.space = .Legacy → r.ps.lock = false
  fam_eq : r.fam = some fam
  select_eq : select (entryOf r) (r.modrm.map regField) r.ps.W = some fam
  operands : ∀ c ∈ fam, HoldOperands bt (row c).shape r

/-- R134: whether a ModRM byte follows is as the shape of each row of the key says. -/
theorem needsModRM_entryOf {r : Regs} {c : Code} (h : c ∈ entryOf r) :
    needsModRM (entryOf r) = decide ((row c).shape ≠ .NONE) := by
  obtain ⟨hopc, hspace, hmp, hmap⟩ := (mem_lookup ..).mp h
  rw [entryOf, ← hopc, ← hspace, ← hmp, ← hmap]
  exact needsModRM_keyRows c

/-- R135: the rows that a selection leaves are rows of the key. -/
theorem mem_of_select {entry fam : List Code} {reg : Option (BitVec 3)} {W : Bool} (h : select entry reg W = some fam)
    {c : Code} (hc : c ∈ fam) : c ∈ entry :=
  (((select_eq_some entry fam reg W h).2 c).mp hc).1

/-- R138: the row that stands for a family is that of a Code of it. -/
theorem famRow_mem {fam : List Code} {x : Row} (h : famRow (some fam) = some x) : ∃ c ∈ fam, x = row c := by
  cases fam with
  | nil => cases h
  | cons c cs => cases h; exact ⟨c, List.mem_cons_self, rfl⟩

/-- R210: after the opcode bytes, the registers from ModRM on are at their initial values. -/
theorem fresh_of_opcode {order : RexOrder} {bt : Bitness} {w : List Byte} {r r' : Regs}
    (hscan : prefixScan order bt w Regs.initial = .ok r) (hopc : readOpcode w r = .ok r') : r'.modrm = none ∧ r'.fresh := by
  obtain ⟨o, hr', -⟩ := readOpcode_ok w r r' hopc
  rw [hr', prefixScan_frame hscan]
  exact ⟨rfl, rfl, rfl, rfl, rfl, rfl⟩

/-- R150, R169: with no ModRM byte there are no operands to hold. -/
theorem holdOperands_none {bt : Bitness} {r : Regs} (hmodrm : r.modrm = none) (hfresh : r.fresh) : HoldOperands bt .NONE r := by
  obtain ⟨-, hmd, hsize, hraw, himm⟩ := hfresh
  have hrm : rmOf r = .reg 0 := by simp only [rmOf, hmodrm]
  refine ⟨?_, ?_, ?_, ?_, fun _ => hmodrm, nofun⟩
  · rw [hrm]; exact hmd
  · rw [hrm]; exact hsize
  · rw [hrm]; exact hraw
  · rw [himm]; rfl

/-- R169: the ModRM state ends a scan. -/
theorem modrmState_scanned {bt : Bitness} {w : List Byte} {r r' : Regs} (hstate : IsInstrState bt r.ps)
    (hlock : r.ps.space = .Legacy → r.ps.lock = false) (hentry : r.entry = some (entryOf r))
    (hneeds : needsModRM (entryOf r) = true) (hfresh : r.fresh) (h : modrmState bt w r = .ok r') :
    ∃ fam, Scanned bt fam r' := by
  obtain ⟨m, fam, x, -, -, hsel, hrow, hops⟩ := modrmState_ok bt w r r' h
  rw [hentry, Option.getD_some] at hsel
  obtain ⟨c0, hc0, rfl⟩ := famRow_mem hrow
  have hframe := readOperands_frame hops
  have hps : r'.ps = r.ps := by rw [hframe]
  have hmodrm : r'.modrm = some m := by rw [hframe]
  have hentry' : entryOf r' = entryOf r := by rw [hframe]; rfl
  refine ⟨fam, hps ▸ hstate, hps ▸ hlock, by rw [hframe], ?_, fun c hc => ?_⟩
  · rw [hentry', hmodrm, hps]; exact hsel
  · obtain ⟨hshape, -⟩ := selectionLeavesOneFamily _ _ _ _ _ _ _ hsel c hc c0 hc0
    rw [needsModRM_entryOf (mem_of_select hsel hc0), decide_eq_true_eq] at hneeds
    rw [hshape]
    exact readOperands_holdOperands hops hfresh rfl hneeds

/-- R210: what the registers hold when the scan has ended. -/
theorem scanRegs_scanned {order : RexOrder} {bt : Bitness} {w : List Byte} {r : Regs} (h : scanRegs order bt w = .ok r) :
    ∃ fam, Scanned bt fam r := by
  obtain ⟨r1, r2, hscan, hlookup, hend⟩ := scanRegs_ok order bt w r h
  obtain ⟨ro, hopc, hentry⟩ := opcodeLookup_ok w r1 r2 hlookup
  have hstate := isInstrState_of_opcode hscan hopc
  obtain ⟨hmodrm, hfresh⟩ := fresh_of_opcode hscan hopc
  obtain ⟨-, hlock, ⟨hneeds, rfl⟩ | ⟨hneeds, fam, hsel, rfl⟩⟩ := lookupEntry_ok ro r2 hentry
  · obtain ⟨-, hend⟩ | ⟨hno, -⟩ := hend
    · exact modrmState_scanned (r := { ro with entry := some (entryOf ro) }) hstate hlock rfl hneeds hfresh hend
    · rw [Option.getD_some, hneeds] at hno; cases hno
  · obtain ⟨hyes, -⟩ | ⟨-, rfl⟩ := hend
    · rw [Option.getD_some, hneeds] at hyes; cases hyes
    · refine ⟨fam, hstate, hlock, rfl, ?_, fun c hc => ?_⟩
      · show select (entryOf ro) (ro.modrm.map regField) _ = _
        rw [hmodrm]; exact hsel
      · have hshape : (row c).shape = .NONE := by
          rw [needsModRM_entryOf (mem_of_select hsel hc)] at hneeds
          simpa using hneeds
        rw [hshape]
        exact holdOperands_none hmodrm hfresh

/-! ### The Code -/

/-- R180, R181, R183: the vector lengths of each space. -/
def TableSpace.lengths (sp : TableSpace) : List Nat :=
  match sp with
  | .Legacy => [0]
  | .VEX => [128, 256]
  | .EVEX => [128, 256, 512]

/-- R139, R140: every family has a row of each vector length of its space. -/
theorem firstLevel_lengths : ∀ e ∈ firstLevel, ∀ f ∈ e.families, ∀ vl ∈ e.space.lengths, ∃ c ∈ f.2.2, (row c).vl = vl := by
  decide +kernel

/-- R198: a family that a selection leaves has a Code for each vector length of its space. -/
theorem codeOf_select {sp : TableSpace} {m : OpMap} {mp : Mp} {o : Byte} {reg : Option (BitVec 3)} {W : Bool}
    {fam : List Code} (h : select (lookup sp m mp o) reg W = some fam) {vl : Nat} (hvl : vl ∈ sp.lengths) :
    ∃ c, codeOf fam vl = some c := by
  obtain ⟨hne, hmem⟩ := select_eq_some _ _ _ _ h
  obtain ⟨c, hc⟩ := List.exists_mem_of_ne_nil _ hne
  obtain ⟨hlookup, hreg, hW⟩ := (hmem c).mp hc
  obtain ⟨e, he, hkey, f, hf, hcf⟩ := (mem_lookup_iff_entry ..).mp hlookup
  obtain ⟨-, hdigit, hw, -⟩ := firstLevel_rows e he f hf c hcf
  have hspace : e.space = sp := congrArg Prod.fst hkey
  obtain ⟨d, hdf, hdvl⟩ := firstLevel_lengths e he f hf vl (hspace.symm ▸ hvl)
  obtain ⟨-, hddigit, hdw, -⟩ := firstLevel_rows e he f hf d hdf
  have hd : d ∈ fam :=
    (hmem d).mpr ⟨(mem_lookup_iff_entry ..).mpr ⟨e, he, hkey, f, hf, hdf⟩, by rw [hddigit, ← hdigit]; exact hreg,
      by rw [hdw, ← hw]; exact hW⟩
  rw [← Option.isSome_iff_exists, codeOf, List.find?_isSome]
  exact ⟨d, hd, decide_eq_true hdvl⟩

/-- R180 to R183: a vector length without rounding is one of the space's. -/
theorem vectorLength_mem {ps : PrefixState} {regform : Bool} {len : Length}
    (h : vectorLength .none ps regform = some len) : len.vl ∈ (tableSpace ps.space).lengths := by
  unfold vectorLength at h
  cases hs : ps.space with
  | Legacy => rw [hs] at h; cases h; decide
  | VEX2 | VEX3 =>
    rw [hs] at h; cases h
    cases ps.L <;> decide
  | EVEX =>
    simp only [hs] at h
    split at h
    · cases h
    · split at h
      · cases h
      · cases h
        exact evexLength_mem _ ‹_›

/-- R198: at the end of a scan there is a Code wherever there is a vector length. -/
theorem Scanned.pickCode_eq {bt : Bitness} {fam : List Code} {r : Regs} (h : Scanned bt fam r) :
    pickCode r = (vectorLength .none r.ps (regForm r)).bind fun len => codeOf fam len.vl := by
  obtain ⟨hne, -⟩ := select_eq_some _ _ _ _ h.select_eq
  cases hfam : fam with
  | nil => exact absurd hfam hne
  | cons c cs =>
    simp only [pickCode, h.fam_eq, hfam, famRow, row_rounding, Option.getD_some]
    cases vectorLength .none r.ps (regForm r) <;> rfl

/-- R183, R184, R198: the two ways in which a scan's Code is chosen: there is no vector length, or it picks a row of the
family. -/
theorem Scanned.pickCode_cases {bt : Bitness} {fam : List Code} {r : Regs} (h : Scanned bt fam r) :
    (vectorLength .none r.ps (regForm r) = none ∧ pickCode r = none) ∨
      ∃ len c, vectorLength .none r.ps (regForm r) = some len ∧ codeOf fam len.vl = some c ∧ pickCode r = some c := by
  rw [h.pickCode_eq]
  cases hlen : vectorLength .none r.ps (regForm r) with
  | none => exact .inl ⟨rfl, rfl⟩
  | some len =>
    obtain ⟨c, hc⟩ := codeOf_select h.select_eq (vectorLength_mem hlen)
    exact .inr ⟨len, c, rfl, hc, hc⟩

end Sys2Proof.Machine
end

section
/-! The instruction that the registers give (spec/44_assembler.md R211): what `build` keeps of the operand fields is what the
assembler reads of the registers. -/

namespace Sys2Proof.Machine

open Sys2Proof Sys2Proof.Spec

/-! ### What an instruction keeps of its operand fields -/

/-- R73, R74, R138: a VEX instruction has the VEX fields that it is built from. -/
theorem build_vex {c : Code} (f : Bundle) (h : (row c).space = .VEX) : (build c f).bundle.vex = f.vex := by
  cases c <;> first | rfl | cases h

/-- R75, R138: an EVEX instruction has the EVEX fields that it is built from. -/
theorem build_evex {c : Code} (f : Bundle) (h : (row c).space = .EVEX) : (build c f).bundle.evex = f.evex := by
  cases c <;> first | rfl | cases h

/-- R138, R153: the rm operand of an instruction that is built: none without a ModRM byte, a register on a register-only row. -/
theorem build_rm (c : Code) (f : Bundle) :
    (build c f).bundle.rm =
      if (row c).shape = .NONE then .reg 0 else if (row c).shape.rmRegOnly then .reg f.rm.field else f.rm := by
  cases c <;> rfl

/-- R138, R167: the imm8 of an instruction that is built. -/
theorem build_imm (c : Code) (f : Bundle) : (build c f).bundle.imm = if (row c).shape.hasImm8 then f.imm else 0 := by
  cases c <;> rfl

/-- R138: whether a shape has an operand that ModRM.reg names. -/
def Shape.namesReg (sh : Shape) : Bool :=
  match sh with
  | .R_RM_IB | .R_RM | .R_V_RM | .K_V_RM | .R_V_RM_IB => true
  | .RMreg_IB | .NONE | .V_RMreg_IB | .V_RM_IB => false

/-- R138: ModRM.reg of an instruction that is built. -/
theorem build_reg {c : Code} (f : Bundle) (h : (row c).shape.namesReg = true) : (build c f).bundle.reg = f.reg := by
  cases c <;> first | rfl | cases h

/-- R138, R214: a record of a shape without such an operand does not depend on ModRM.reg. -/
theorem assemble_setReg {c : Code} {p : Pieces} {v : BitVec 3} (h : (row c).shape.namesReg = true → v = p.reg) :
    assemble (tableForm c) { p with reg := v } = assemble (tableForm c) p := by
  have hslots : (tableForm c).slots.map (fillSlot { p with reg := v }) = (tableForm c).slots.map (fillSlot p) := by
    cases hreg : (row c).shape.namesReg with
    | true => rw [h hreg]
    | false =>
      unfold tableForm
      cases hsh : (row c).shape <;> rw [hsh] at hreg <;> first | rfl | cases hreg
  simp only [assemble, assembleBase, hslots]
  rfl

/-! ### The prefix state -/

/-- R117: the prefix state of a VEX instruction is that of its fields as they are read off it. -/
theorem vexState_vexOf (bt : Bitness) (m : OpMap) (mp : Mp) (L : Bool) (p : VexPrefix) :
    vexState bt m mp L (vexOf (vexState bt m mp L p)) = vexState bt m mp L p := by
  cases h : p.three <;> cases bt <;> simp [vexState_eq, vexOf, h]

/-- R117: the prefix state of an EVEX instruction is that of its fields as they are read off it. -/
theorem evexPrefixState_evexOf (bt : Bitness) (m : OpMap) (mp : Mp) (ll : BitVec 2) (p : EvexPrefix) :
    evexPrefixState bt m mp ll (evexOf (evexPrefixState bt m mp ll p)) = evexPrefixState bt m mp ll p := by
  cases bt <;> simp [evexPrefixState_eq, evexOf]

/-- R183: L'L gives back the vector length that it stands for. -/
theorem llOf_shift {ll : BitVec 2} (h : ll ≠ 3) : llOf (128 <<< ll.toNat) = ll := by
  revert ll; decide

/-- R210: the Code that ends a scan, and the vector length that picked it. -/
structure Picked (fam : List Code) (r : Regs) (len : Length) (c : Code) : Prop where
  length_eq : vectorLength .none r.ps (regForm r) = some len
  codeOf_eq : codeOf fam len.vl = some c

section
variable {bt : Bitness} {fam : List Code} {r : Regs} {len : Length} {c : Code}

theorem Picked.mem (h : Picked fam r len c) : c ∈ fam := (codeOf_eq_some fam _ c h.codeOf_eq).1
theorem Picked.vl_eq (h : Picked fam r len c) : (row c).vl = len.vl := (codeOf_eq_some fam _ c h.codeOf_eq).2

/-- R132: the Code's row has the key of the registers. -/
theorem Scanned.row_key (h : Scanned bt fam r) (hc : c ∈ fam) :
    (row c).space = tableSpace r.ps.space ∧ (row c).mp = r.ps.mp ∧ (row c).map = r.ps.map.getD .m0F := by
  obtain ⟨-, hspace, hmp, hmap⟩ := (mem_lookup ..).mp (mem_of_select h.select_eq hc)
  exact ⟨hspace, hmp, hmap⟩

/-- R211: the prefix state of the instruction is `ps`. -/
theorem Scanned.instrState_eq (h : Scanned bt fam r) (hc : Picked fam r len c) :
    instrState bt (build c (bundleOf r)) = r.ps := by
  obtain ⟨hspace, hmp, hmap⟩ := h.row_key hc.mem
  have hlen := hc.length_eq
  have hvl := hc.vl_eq
  obtain ⟨m, p, hps⟩ | ⟨m, mp, L, p, hps⟩ | ⟨m, mp, ll, p, hps⟩ := h.state
  · have hs : (row c).space = .Legacy := by rw [hspace, hps, legacyState_eq]; rfl
    have hm : (row c).map = m := by rw [hmap, hps, legacyState_eq]; rfl
    rw [instrState_legacy bt (by rwa [build_code]), build_code, hm, build_legacy _ hs]
    show legacyState m (legacyOf r.ps) = _
    rw [hps, legacyOf_legacyState]
  · have hs : (row c).space = .VEX := by
      rw [hspace, hps, vexState_eq]
      cases p.three <;> rfl
    have hm : (row c).map = m := by rw [hmap, hps, vexState_eq]; rfl
    have hmp' : (row c).mp = mp := by rw [hmp, hps, vexState_eq]; exact ppMp_mpKeyBits mp
    have hL : decide ((row c).vl = 256) = L := by
      rw [hps, vexState_eq] at hlen
      rw [hvl]
      cases h3 : p.three <;> cases L <;> simp [vectorLength, h3] at hlen <;> simp [← hlen]
    rw [instrState_vex bt (by rwa [build_code]), build_code, hm, hmp', hL, build_vex _ hs]
    show vexState bt m mp L (vexOf r.ps) = _
    rw [hps, vexState_vexOf]
  · have hs : (row c).space = .EVEX := by rw [hspace, hps, evexPrefixState_eq]; rfl
    have hm : (row c).map = m := by rw [hmap, hps, evexPrefixState_eq]; rfl
    have hmp' : (row c).mp = mp := by rw [hmp, hps, evexPrefixState_eq]; exact ppMp_mpKeyBits mp
    have hll : llOf (row c).vl = ll := by
      rw [hps, evexPrefixState_eq] at hlen
      rw [hvl]
      simp only [vectorLength] at hlen
      split at hlen
      · cases hlen
      · split at hlen
        · cases hlen
        · cases hlen
          exact llOf_shift ‹_›
    rw [instrState_evex bt (by rwa [build_code]), build_code, hm, hmp', hll, build_evex _ hs]
    show evexPrefixState bt m mp ll (evexOf r.ps) = _
    rw [hps, evexPrefixState_evexOf]

/-! ### The pieces -/

/-- R77: the rm field and REGFORM of the registers are those of the rm operand that they name. -/
theorem rmOf_field_isReg (r : Regs) : (rmOf r).field = (r.modrm.map rmField).getD 0 ∧ (rmOf r).isReg = regForm r := by
  unfold rmOf regForm
  cases r.modrm with
  | none => exact ⟨rfl, rfl⟩
  | some m =>
    by_cases hmod : modField m = 3
    · simp only [if_pos hmod, decide_eq_true hmod]
      exact ⟨rfl, rfl⟩
    · simp only [if_neg hmod, decide_eq_false hmod]
      exact ⟨rfl, rfl⟩

/-- R138: the rm operand of the instruction is the one that the registers name. -/
theorem HoldOperands.build_rm_eq (h : HoldOperands bt (row c).shape r) : (build c (bundleOf r)).bundle.rm = rmOf r := by
  rw [build_rm]
  split
  · have hmodrm := h.modrm ‹_›
    simp only [rmOf, hmodrm]
  · split
    · have hreg := h.only ‹_›
      show RMOperand.reg (rmOf r).field = _
      cases hrm : rmOf r with
      | reg v => rfl
      | mem mod v sib d => rw [hrm] at hreg; cases hreg
    · rfl

/-- R167: the imm8 of the instruction is the one that the registers hold. -/
theorem HoldOperands.instrImm_eq (h : HoldOperands bt (row c).shape r) : instrImm (build c (bundleOf r)) = r.imm := by
  have himm := h.imm
  rw [instrImm, build_imm, build_code, ← himm]
  show (if r.imm.isSome then some (if r.imm.isSome then r.imm.getD 0 else 0) else none) = _
  cases r.imm <;> rfl

/-- R211: the pieces of the instruction are the registers, except that an instruction keeps ModRM.reg only where an operand is
named by it. -/
theorem Scanned.instrPieces_eq {s : State} (h : Scanned s.bitness fam r) (hc : Picked fam r len c) (vf : VectorFields) :
    { instrPieces (build c (bundleOf r)) (s.decoded r) with vf := vf } =
      { State.pieces { s.decoded r with vf := vf } with reg := (build c (bundleOf r)).bundle.reg } := by
  have hops := h.operands c hc.mem
  have hps : instrState s.bitness (build c (bundleOf r)) = r.ps := h.instrState_eq hc
  simp only [instrPieces, piecesOf, State.pieces, hps, hops.build_rm_eq, hops.instrImm_eq, (rmOf_field_isReg r).1, ← hops.size,
    ← hops.raw, State.decoded_bitness, State.decoded_regs, ← hops.md]

/-- R211: the record of the instruction is the one assembled from the registers. -/
theorem Scanned.assemble_eq {s : State} (h : Scanned s.bitness fam r) (hc : Picked fam r len c) (vf : VectorFields) :
    assemble (tableForm c) { instrPieces (build c (bundleOf r)) (s.decoded r) with vf := vf } =
      assemble (tableForm c) (State.pieces { s.decoded r with vf := vf }) := by
  rw [h.instrPieces_eq hc vf]
  exact assemble_setReg fun hreg => build_reg _ hreg

/-- R199: `VectorFieldDecode` of the instruction is that of the registers. -/
theorem Scanned.instrFields_eq {s : State} (h : Scanned s.bitness fam r) (hc : Picked fam r len c) :
    instrFields (build c (bundleOf r)) (s.decoded r) =
      vectorFieldDecode (tableForm c) r.ps (regForm r) (isDisp8 r.md r.dispSize) := by
  have hpieces := h.instrPieces_eq hc VectorFields.initial
  have hps : (instrPieces (build c (bundleOf r)) (s.decoded r)).ps = r.ps := congrArg Pieces.ps hpieces
  have hmd : (instrPieces (build c (bundleOf r)) (s.decoded r)).md = r.md := congrArg Pieces.md hpieces
  have hsize : (instrPieces (build c (bundleOf r)) (s.decoded r)).dispSize = r.dispSize := congrArg Pieces.dispSize hpieces
  have hreg : r.md.isNone = regForm r := by
    rw [← (rmOf_field_isReg r).2, (h.operands c hc.mem).md]
    cases rmOf r <;> rfl
  rw [instrFields, build_code, hps, hmd, hsize, hreg]

end

end Sys2Proof.Machine
end

section
/-! The machine of one step per FSM state (spec/44_assembler.md R210): its reading states do the scan, and its last states do on
the registers what the instruction's meaning does. -/

namespace Sys2Proof.Machine

open Sys2Proof Sys2Proof.Spec

/-! ### Running the machine -/

/-- R210: a run whose first state goes on. -/
theorem fsmRun_succ {k : Nat} {s t : State} (h : fsmStep s = .next t) : fsmRun (k + 1) s = fsmRun k t := by
  simp only [fsmRun, h]

/-- R210: a run stays in a state that is its own next state. -/
theorem fsmRun_of_fixed {s : State} (h : fsmStep s = .next s) (k : Nat) : fsmRun k s = .next s := by
  induction k with
  | zero => rfl
  | succ k ih => rw [fsmRun_succ h, ih]

/-- R210: `Done` is terminal. -/
theorem fsmRun_done (k : Nat) (s : State) (insn : Instruction) : fsmRun k (s.done insn) = .next (s.done insn) :=
  fsmRun_of_fixed rfl k

/-- R210: `Error` is terminal. -/
theorem fsmRun_raise (k : Nat) (s : State) (e : DecodeError) : fsmRun k (s.raise e) = .next (s.raise e) :=
  fsmRun_of_fixed rfl k

/-! ### The reading states -/

/-- R210: the state of a transaction on the inputs of `s` whose FSM state is `f` and whose registers are `r`. -/
def State.reading (s : State) (r : Regs) (f : Fsm) : State := { s.begin with regs := r, fsm := f }

/-- R210: a transaction starts to read with the registers at their initial values. -/
theorem State.begin_eq_reading (s : State) : s.begin = s.reading Regs.initial .PrefixScan := rfl

/-- R210: the state in which an instruction's meaning runs is the one that follows the last byte. -/
theorem State.decoded_eq_reading (s : State) (r : Regs) : s.decoded r = s.reading r (afterOperands r) := rfl

section
variable {s : State} {r : Regs} {f : Fsm} {d : Dec Regs} {next : Regs → Fsm}

/-- R500: a reading state whose work raises ends the transaction. -/
theorem fsmRun_reading_error (k : Nat) {st : Stop}
    (hstep : fsmStep (s.reading r f) = .next ((s.reading r f).endWork d next)) (hd : d = .error st) :
    fsmRun (k + 1) (s.reading r f) = .next (s.stopped st) := by
  subst hd
  exact (fsmRun_succ hstep).trans (fsmRun_raise k { s.reading r f with regs := st.regs } st.err)

/-- R210: a reading state whose work gives the registers `r'` goes on with them. -/
theorem fsmRun_reading_ok (k : Nat) {r' : Regs}
    (hstep : fsmStep (s.reading r f) = .next ((s.reading r f).endWork d next)) (hd : d = .ok r') :
    fsmRun (k + 1) (s.reading r f) = fsmRun k (s.reading r' (next r')) := by
  subst hd
  exact fsmRun_succ hstep

end

/-- R210: the reading states do the scan: a raise ends the transaction, and otherwise the states that are left work on the
registers of the scan. -/
theorem fsmRun_scan (s : State) :
    (∃ st, scanRegs s.rexOrder s.bitness s.window = .error st ∧ fsmRun 5 s.begin = .next (s.stopped st)) ∨
      ∃ r k, scanRegs s.rexOrder s.bitness s.window = .ok r ∧ fsmRun 5 s.begin = fsmRun (k + 2) (s.decoded r) := by
  rw [State.begin_eq_reading]
  cases hscan : prefixScan s.rexOrder s.bitness s.window Regs.initial with
  | error st => exact .inl ⟨st, by simp only [scanRegs, hscan], fsmRun_reading_error 4 rfl hscan⟩
  | ok r1 =>
    rw [fsmRun_reading_ok 4 rfl hscan]
    cases hlookup : opcodeLookup s.window r1 with
    | error st => exact .inl ⟨st, by simp only [scanRegs, hscan, hlookup], fsmRun_reading_error 3 rfl hlookup⟩
    | ok r2 =>
      rw [fsmRun_reading_ok 3 rfl hlookup]
      cases hneeds : needsModRM (r2.entry.getD []) with
      | false =>
        rw [if_neg Bool.false_ne_true, ← State.decoded_eq_reading]
        exact .inr ⟨r2, 1, by simp [scanRegs, hscan, hlookup, hneeds], rfl⟩
      | true =>
        rw [if_pos rfl]
        cases hmodrm : modrmState s.bitness s.window r2 with
        | error st =>
          exact .inl ⟨st, by simp [scanRegs, hscan, hlookup, hneeds, hmodrm], fsmRun_reading_error 2 rfl hmodrm⟩
        | ok r =>
          rw [fsmRun_reading_ok 2 rfl hmodrm, ← State.decoded_eq_reading]
          exact .inr ⟨r, 0, by simp [scanRegs, hscan, hlookup, hneeds, hmodrm], rfl⟩

/-! ### `VectorFieldDecode` by the family -/

/-- R195: the displacement factor takes the element size alone of a broadcast form. -/
theorem dispFactor_congr {x y : Option (MemorySize × Nat)} (h : x.map Prod.snd = y.map Prod.snd) (b : Bool) (vl : Nat) :
    dispFactor x b vl = dispFactor y b vl := by
  cases b with
  | false => rfl
  | true =>
    cases x with
    | none =>
      cases y with
      | none => rfl
      | some q => cases h
    | some p =>
      cases y with
      | none => cases h
      | some q => exact Option.some.inj h

/-- R138, R199: rows that share shape, masking and broadcast element size have the same `VectorFieldDecode`. -/
theorem vectorFieldDecode_congr {c d : Code} (hshape : (row c).shape = (row d).shape) (hmask : (row c).mask = (row d).mask)
    (hbcst : (row c).bcst.map Prod.snd = (row d).bcst.map Prod.snd) (ps : PrefixState) (regform disp8 : Bool) :
    vectorFieldDecode (tableForm c) ps regform disp8 = vectorFieldDecode (tableForm d) ps regform disp8 := by
  have hv : (tableForm c).usesVvvv = (tableForm d).usesVvvv := by rw [tableForm_usesVvvv, tableForm_usesVvvv, hshape]
  have hk : (tableForm c).kDest = (tableForm d).kDest := by rw [tableForm_kDest, tableForm_kDest, hshape]
  have hm : (tableForm c).mask = (tableForm d).mask := hmask
  have hnone : (tableForm c).bcst.isNone = (tableForm d).bcst.isNone := by
    show (row c).bcst.isNone = (row d).bcst.isNone
    simpa only [Option.isNone_map] using congrArg Option.isNone hbcst
  have hfactor (b : Bool) (vl : Nat) : dispFactor (tableForm c).bcst b vl = dispFactor (tableForm d).bcst b vl :=
    dispFactor_congr hbcst b vl
  have hbad : evexFieldsBad (tableForm c) ps regform = evexFieldsBad (tableForm d) ps regform := by
    rw [evexFieldsBad, evexFieldsBad, hv, hk, hm, hnone]
  simp only [vectorFieldDecode, tableForm_rounding, hv, hbad, hfactor]

/-- R183, R184: without a vector length `VectorFieldDecode` raises. -/
theorem vectorFieldDecode_of_no_length {c : Code} {ps : PrefixState} {regform : Bool}
    (h : vectorLength .none ps regform = none) (disp8 : Bool) :
    vectorFieldDecode (tableForm c) ps regform disp8 = .error .InvalidVexEvexEncoding := by
  simp only [vectorFieldDecode, tableForm_rounding, h]

/-- R181, R183: the vector length in `vf`. -/
theorem vectorFieldDecode_vl {c : Code} {ps : PrefixState} {regform disp8 : Bool} {len : Length} {vf : VectorFields}
    (hlen : vectorLength .none ps regform = some len) (h : vectorFieldDecode (tableForm c) ps regform disp8 = .ok vf) :
    vf.vl = len.vl := by
  simp only [vectorFieldDecode, tableForm_rounding, hlen] at h
  split at h
  · rename_i hs
    rw [vectorLength, hs] at hlen
    cases hlen; cases h; rfl
  all_goals
    split at h
    · cases h
    · cases h; rfl

/-- R138: the form that stands for the family that a scan selected has the `VectorFieldDecode` of each of its Codes. -/
theorem Scanned.famForm_cases {bt : Bitness} {fam : List Code} {r : Regs} (h : Scanned bt fam r) :
    ∃ c0, famForm r.fam = some (tableForm c0) ∧ ∀ c ∈ fam, ∀ ps regform disp8,
      vectorFieldDecode (tableForm c0) ps regform disp8 = vectorFieldDecode (tableForm c) ps regform disp8 := by
  have hsel := h.select_eq
  obtain ⟨hne, -⟩ := select_eq_some _ _ _ _ hsel
  cases fam with
  | nil => exact absurd rfl hne
  | cons c0 cs =>
    refine ⟨c0, by rw [h.fam_eq]; rfl, fun c hc => ?_⟩
    obtain ⟨hshape, hmask, -, -, hbcst, -⟩ := selectionLeavesOneFamily _ _ _ _ _ _ _ hsel c0 List.mem_cons_self c hc
    exact vectorFieldDecode_congr hshape hmask hbcst

/-! ### The last states -/

/-- R198, R211: `Assemble` on registers that hold a picked Code ends in the record of their instruction. -/
theorem fsmRun_assemble (k : Nat) {s : State} {fam : List Code} {r : Regs} {len : Length} {c : Code}
    (h : Scanned s.bitness fam r) (hc : Picked fam r len c) {vf : VectorFields} (hvl : vf.vl = len.vl) :
    fsmRun (k + 1) { s.decoded r with vf := vf, fsm := .Assemble } =
      .next (State.done { s.decoded r with vf := vf }
        (assemble (tableForm c) { instrPieces (build c (bundleOf r)) (s.decoded r) with vf := vf })) := by
  have hmatch := instr_descriptorMatches (build c (bundleOf r)) (s.decoded r) vf
  rw [build_code, h.assemble_eq hc vf] at hmatch
  have hcode : codeOf ((some fam).getD []) vf.vl = some c := by rw [hvl]; exact hc.codeOf_eq
  rw [h.assemble_eq hc vf]
  refine (fsmRun_succ ?_).trans (fsmRun_done k _ _)
  show State.assembleWork _ = _
  simp only [State.assembleWork, State.decoded_regs, h.fam_eq, hcode]
  exact finish_eq_next (tableForm c) _ _ hmatch

/-- R199, R210: the states after the last byte, in a legacy row where `vf` stays at its initial value, and in a VEX or EVEX row
where `VectorFieldDecode` raises or writes it. -/
theorem fsmRun_vectorFields (k : Nat) {s : State} {fam : List Code} {r : Regs} {c : Code} (h : Scanned s.bitness fam r)
    (hc : c ∈ fam) :
    (∀ e, vectorFieldDecode (tableForm c) r.ps (regForm r) (isDisp8 r.md r.dispSize) = .error e →
      fsmRun (k + 2) (s.decoded r) = .next ((s.decoded r).raise e)) ∧
    ∀ vf, vectorFieldDecode (tableForm c) r.ps (regForm r) (isDisp8 r.md r.dispSize) = .ok vf →
      ∃ k', fsmRun (k + 2) (s.decoded r) = fsmRun (k' + 1) { s.decoded r with vf := vf, fsm := .Assemble } := by
  by_cases hs : r.ps.space = .Legacy
  · rw [vectorFieldDecode_legacy _ _ _ _ hs]
    refine ⟨nofun, fun vf hvf => ⟨k + 1, ?_⟩⟩
    cases hvf
    have hstate : s.decoded r = { s.decoded r with vf := VectorFields.initial, fsm := .Assemble } := by
      simp only [State.decoded, hs, if_true]
      rfl
    rw [← hstate]
  · obtain ⟨c0, hform, hsame⟩ := h.famForm_cases
    have hstep : fsmStep (s.decoded r) = .next (s.decoded r).vectorWork := by
      simp only [fsmStep, State.decoded_fsm, if_neg hs]
    rw [fsmRun_succ hstep]
    refine ⟨fun e he => ?_, fun vf hvf => ⟨k, ?_⟩⟩
    · rw [← hsame c hc] at he
      simp only [State.vectorWork, State.decoded_regs, hform, he]
      exact fsmRun_raise ..
    · rw [← hsame c hc] at hvf
      simp only [State.vectorWork, State.decoded_regs, hform, hvf]

/-- R133: no LOCK stands before the legacy instruction that a scan gives. -/
theorem Scanned.build_lock {bt : Bitness} {fam : List Code} {r : Regs} {len : Length} {c : Code} (h : Scanned bt fam r)
    (hc : Picked fam r len c) (hs : (row (build c (bundleOf r)).code).space = .Legacy) :
    (build c (bundleOf r)).bundle.legacy.lock = false := by
  have hspace := (instrState_space_legacy_iff bt _).mpr hs
  rw [h.instrState_eq hc] at hspace
  rw [build_code] at hs
  rw [build_legacy _ hs]
  exact h.noLock hspace

/-- R210: the states after the last byte end as the decode of the registers and the instruction's meaning do. -/
theorem fsmRun_decoded (k : Nat) {s : State} {r : Regs} (hscan : scanRegs s.rexOrder s.bitness s.window = .ok r) :
    fsmRun (k + 2) (s.decoded r) = step s := by
  obtain ⟨fam, h⟩ := scanRegs_scanned hscan
  obtain ⟨hlen, hpick⟩ | ⟨len, c, hlen, hcode, hpick⟩ := h.pickCode_cases
  · obtain ⟨hne, -⟩ := select_eq_some _ _ _ _ h.select_eq
    obtain ⟨c, hc⟩ := List.exists_mem_of_ne_nil _ hne
    have hd : decode s.rexOrder s.bitness s.window = .error { err := .InvalidVexEvexEncoding, regs := r } := by
      simp only [decode, hscan, hpick, raiseAt]
    rw [(fsmRun_vectorFields k h hc).1 _ (vectorFieldDecode_of_no_length hlen _), step_of_decode_error s _ hd]
    rfl
  · have hc : Picked fam r len c := ⟨hlen, hcode⟩
    have hd := (decode_eq_ok s.rexOrder s.bitness s.window _ r).mpr ⟨hscan, c, hpick, rfl⟩
    obtain ⟨hraise, hok⟩ := fsmRun_vectorFields k h hc.mem
    have hfields := h.instrFields_eq hc
    rw [step_of_decode_ok s _ r hd]
    cases hvf : vectorFieldDecode (tableForm c) r.ps (regForm r) (isDisp8 r.md r.dispSize) with
    | error e =>
      rw [hvf] at hfields
      have hs : (row (build c (bundleOf r)).code).space ≠ .Legacy := by
        intro hs
        rw [instrFields_legacy _ hs] at hfields
        cases hfields
      rw [hraise e hvf, exec_of_fields_error hs hfields]
      rfl
    | ok vf =>
      rw [hvf] at hfields
      obtain ⟨k', hrun⟩ := hok vf hvf
      rw [hrun, fsmRun_assemble k' h hc (vectorFieldDecode_vl hlen hvf), exec_of_fields_ok (h.build_lock hc) hfields,
        build_code]
      rfl

/-- Settles O7: the reading states do the scan, and the last states the instruction's meaning. -/
theorem stateMachineRefinesStep : Obligations.StateMachineRefinesStep := by
  intro s
  refine (fsmRun_succ (t := s.begin) rfl).trans ?_
  obtain ⟨st, hscan, hrun⟩ | ⟨r, k, hscan, hrun⟩ := fsmRun_scan s
  · rw [hrun, step_of_decode_error s st (by simp only [decode, hscan])]
  · rw [hrun, fsmRun_decoded k hscan]

end Sys2Proof.Machine
end

section
/-! The successful results (spec/44_assembler.md R212 to R217): the record is the one assembled from the registers of the scan,
so that its length is the cursor, and what holds of the registers holds of its fields. -/

namespace Sys2Proof.Machine

open Sys2Proof Sys2Proof.Spec

/-! ### From a record to the scan -/

/-- R210 to R218: what a transaction that ends with the record `insn` has done: the scan, and a Code's form filled from its
registers and `vf`. -/
structure Completed (s t : State) (insn : Instruction) (fam : List Code) (r : Regs) (c : Code)
    (vf : VectorFields) : Prop where
  scan : scanRegs s.rexOrder s.bitness s.window = .ok r
  scanned : Scanned s.bitness fam r
  final : t = State.done { s.decoded r with vf := vf } insn
  record : insn = assemble (tableForm c) (State.pieces { s.decoded r with vf := vf })
  sound : insn.sound = true

/-- R210 to R218: a record comes from a scan, a Code of the family that it selected, and a `vf`. -/
theorem completed_of_step {s t : State} {insn : Instruction} (h : step s = .next t) (hres : t.result = .Ok insn) :
    ∃ fam r c vf, Completed s t insn fam r c vf := by
  obtain ⟨st, -, hs⟩ | ⟨i, r, hd, ⟨e, hs⟩ | ⟨vf, hvf, hs⟩⟩ := step_cases s
  · rw [hs] at h; cases h; cases hres
  · rw [hs] at h; cases h; cases hres
  · rw [hs] at h; cases h; cases hres
    obtain ⟨hrange, hrc, hsae⟩ := vectorFieldDecode_inRange _ _ _ _ _ hvf
    have hsound := assemble_sound i (s.decoded r) vf (decode_ok_pos hd) hrange hrc hsae
    obtain ⟨hscan, c, hpick, rfl⟩ := (decode_eq_ok ..).mp hd
    obtain ⟨fam, hr⟩ := scanRegs_scanned hscan
    obtain ⟨-, hnone⟩ | ⟨len, c', hlen, hcode, hpick'⟩ := hr.pickCode_cases
    · rw [hpick] at hnone; cases hnone
    · rw [hpick] at hpick'; cases hpick'
      have hc : Picked fam r len c := ⟨hlen, hcode⟩
      refine ⟨fam, r, c, vf, hscan, hr, rfl, ?_, hsound⟩
      rw [build_code]
      exact hr.assemble_eq hc vf

/-! ### The fields of a sound record -/

/-- R217 item 3: what the soundness of a slot says. -/
theorem OpSlot.sound_iff (o : OpSlot) : o.sound = true ↔ (o.kind = .Register ↔ o.register ≠ none) := by
  unfold OpSlot.sound
  cases o.kind <;> cases o.register <;> simp

/-- R217: what the soundness of a record says. -/
theorem Instruction.sound_iff (x : Instruction) :
    x.sound = true ↔
      1 ≤ x.byteLength.val ∧ x.byteLength.val ≤ 15 ∧ x.opCount ≤ 4 ∧ descriptorMatches x = true ∧
      (∀ o ∈ x.ops.take x.opCount, o.kind = .Register ↔ o.register ≠ none) ∧ x.memorySlots ≤ 1 ∧
      (x.opMask = none → x.zeroingMasking = false) ∧ x.roundingControl = .None ∧ x.suppressAllExceptions = false ∧
      x.memoryDisplSize ∈ [0, 1, 2, 4] := by
  have hzero : (x.opMask.isSome || !x.zeroingMasking) = true ↔ (x.opMask = none → x.zeroingMasking = false) := by
    cases x.opMask <;> simp
  unfold Instruction.sound
  simp only [Bool.and_eq_true, decide_eq_true_eq, Bool.not_eq_true', List.all_eq_true, OpSlot.sound_iff, hzero, and_assoc]
  exact Iff.rfl

@[simp] theorem assemble_hasRepePrefix (f : Form) (p : Pieces) : (assemble f p).hasRepePrefix = hasRepe p.ps :=
  congrArg Instruction.hasRepePrefix (assemble_eq f p)
@[simp] theorem assemble_hasRepnePrefix (f : Form) (p : Pieces) : (assemble f p).hasRepnePrefix = hasRepne p.ps :=
  congrArg Instruction.hasRepnePrefix (assemble_eq f p)
@[simp] theorem assemble_hasLockPrefix (f : Form) (p : Pieces) : (assemble f p).hasLockPrefix = p.ps.lock :=
  congrArg Instruction.hasLockPrefix (assemble_eq f p)

/-- R109, R110, R120: no F2 or F3 is left over: in legacy space it is the mandatory prefix, and none stands before an escape. -/
theorem IsInstrState.repFlags {bt : Bitness} {ps : PrefixState} (h : IsInstrState bt ps) :
    hasRepe ps = false ∧ hasRepne ps = false := by
  obtain ⟨m, p, rfl⟩ | ⟨m, mp, L, p, rfl⟩ | ⟨m, mp, ll, p, rfl⟩ := h
  · exact repFlags_of_legacyMp _ (by rw [legacyState_eq])
  · rw [vexState_eq]; exact ⟨rfl, rfl⟩
  · rw [evexPrefixState_eq]; exact ⟨rfl, rfl⟩

/-- R110, R121, R133: no LOCK is left over: a legacy row refuses it, and none stands before an escape. -/
theorem Scanned.lock_eq {bt : Bitness} {fam : List Code} {r : Regs} (h : Scanned bt fam r) : r.ps.lock = false := by
  obtain ⟨m, p, hps⟩ | ⟨m, mp, L, p, hps⟩ | ⟨m, mp, ll, p, hps⟩ := h.state
  · exact h.noLock (by rw [hps, legacyState_eq]; rfl)
  · rw [hps, vexState_eq]; rfl
  · rw [hps, evexPrefixState_eq]; rfl

/-- R32, R163: the scale of a record with a memory operand is that of `md`. -/
theorem assemble_scale {f : Form} {p : Pieces} {md : MemWork} (h : p.md = some md) :
    (assemble f p).memoryIndexScale = md.scale := by
  rw [assemble_mem f p md h]; rfl

/-- Settles O10: the record is sound, its prefix flags are those of the scan's `ps`, and `md` is in range. -/
theorem okRecordsAreSound : Obligations.OkRecordsAreSound := by
  intro s t insn hstep hres
  obtain ⟨fam, r, c, vf, h⟩ := completed_of_step hstep hres
  obtain ⟨hlow, hhigh, hcount, hdesc, hslots, hmem, hzero, hrc, hsae, hsize⟩ := (Instruction.sound_iff insn).mp h.sound
  have hregs : t.regs = r := by rw [h.final]; rfl
  have hps : (State.pieces { s.decoded r with vf := vf }).ps = r.ps := rfl
  have hrange := scanRegs_inRange s.rexOrder s.bitness s.window
  rw [h.scan] at hrange
  obtain ⟨-, -, hscale⟩ := (Regs.inRange_iff r).mp hrange
  obtain ⟨hrepe, hrepne⟩ := h.scanned.state.repFlags
  refine ⟨hlow, hhigh, ?_, hcount, hdesc, hmem, hslots, hzero, hrc, hsae, fun m hm has => ?_, hsize, ?_, ?_, ?_⟩
  · rw [h.record, hregs, assemble_byteLength]; rfl
  · rw [hregs] at hm
    rw [h.record, assemble_scale hm]
    exact hscale m hm has
  · rw [h.record, assemble_hasRepePrefix, hps, hrepe]
  · rw [h.record, assemble_hasRepnePrefix, hps, hrepne]
  · rw [h.record, assemble_hasLockPrefix, hps, h.scanned.lock_eq]

/-! ### The length -/

/-- R111 to R114: an escape has a payload. -/
theorem readEscape_pos_lt {bt : Bitness} {w : List Byte} {b0 : Byte} {r r' : Regs} (h : readEscape bt w b0 r = .ok r') :
    r.pos.val < r'.pos.val := by
  have hthree (p : Fin 16) : p.val < 13 → p.val < (p + 3).val := by revert p; decide
  have htwo (p : Fin 16) : p.val < 14 → p.val < (p + 2).val := by revert p; decide
  obtain ⟨-, ⟨-, hread⟩ | ⟨-, hread⟩ | ⟨-, -, hread⟩⟩ := readEscape_ok bt w b0 r r' h
  · obtain ⟨p1, hpos, -, rfl⟩ := (readVex2_ok bt w r r').mp hread
    exact (cursor_succ r.pos hpos).symm ▸ Nat.lt_succ_self _
  · obtain ⟨p1, p2, m, hpos, -, -, -, rfl⟩ := readVex3_ok bt w r r' hread
    exact htwo r.pos hpos
  · obtain ⟨P0, P1, P2, m, hpos, -, -, -, -, -, rfl⟩ := readEvex_ok bt w r r' hread
    exact hthree r.pos hpos

/-- R169: the ModRM state reads at least one byte. -/
theorem modrmState_pos_lt {bt : Bitness} {w : List Byte} {r r' : Regs} (h : modrmState bt w r = .ok r') :
    r.pos.val < r'.pos.val := by
  obtain ⟨m, f, x, hpos, -, -, -, hops⟩ := modrmState_ok bt w r r' h
  calc r.pos.val < (r.pos + 1).val := by rw [cursor_succ _ hpos]; exact Nat.lt_succ_self _
    _ ≤ r'.pos.val := readOperands_pos_le hops

/-- R140: the one legacy row without a ModRM byte has opcode 77. -/
theorem opcode_of_legacy_none {c : Code} (hspace : (row c).space = .Legacy) (hshape : (row c).shape = .NONE) :
    (row c).opcode = 0x77 := by
  have hall : ∀ c ∈ allCodes, (row c).space = .Legacy → (row c).shape = .NONE → (row c).opcode = 0x77 := by decide +kernel
  exact hall c (mem_allCodes c) hspace hshape

/-- R123: after a prefix scan that read one byte, this byte is `b0`, and the space is legacy. -/
theorem prefixScan_pos {order : RexOrder} {bt : Bitness} {w : List Byte} {r : Regs}
    (h : prefixScan order bt w Regs.initial = .ok r) :
    1 ≤ r.pos.val ∧ (r.pos.val = 1 → r.b0 = w[0]? ∧ r.ps.space = .Legacy) := by
  obtain ⟨r1, t, hloop, -, ⟨-, hesc⟩ | ⟨-, rfl⟩⟩ := prefixScan_ok order bt w _ r h
  all_goals
    obtain ⟨b, hr1, -, hpos, hb⟩ := prefixLoop_ok order bt w _ _ r1 hloop
    have hpos : 0 < r1.pos.val := hpos
  · have := readEscape_pos_lt hesc
    exact ⟨by omega, fun h1 => by omega⟩
  · refine ⟨hpos, fun h1 => ⟨?_, by rw [legacyEnd_eq]⟩⟩
    have h1 : r1.pos.val = 1 := h1
    rw [h1] at hb
    rw [hb, hr1]

/-- R132, R140, R142: an opcode lookup in legacy space after which no ModRM byte follows has read opcode 77. -/
theorem opcodeLookup_none {w : List Byte} {r r' : Regs} (hspace : r.ps.space = .Legacy) (h : opcodeLookup w r = .ok r')
    (hneeds : needsModRM (r'.entry.getD []) = false) : r.b0 = some 0x0F ∧ w[r'.pos.val - 1]? = some 0x77 := by
  obtain ⟨ro, hopc, hlookup⟩ := opcodeLookup_ok w r r' h
  obtain ⟨o, hro, -, -, ho⟩ := readOpcode_ok w r ro hopc
  obtain ⟨-, hb0, -⟩ | ⟨hne, -⟩ := readOpcode_map hopc
  · refine ⟨hb0, ?_⟩
    obtain ⟨-, -, ⟨hyes, rfl⟩ | ⟨hno, f, hsel, rfl⟩⟩ := lookupEntry_ok ro r' hlookup
    · rw [Option.getD_some, hyes] at hneeds; cases hneeds
    · obtain ⟨hnil, -⟩ := select_eq_some _ _ _ _ hsel
      obtain ⟨c, hc⟩ := List.exists_mem_of_ne_nil _ hnil
      have hmem := mem_of_select hsel hc
      rw [needsModRM_entryOf hmem] at hno
      obtain ⟨hopcode, htable, -⟩ := (mem_lookup ..).mp hmem
      have hlegacy : ro.ps.space = .Legacy := by rw [hro]; exact hspace
      have hget : ro.opc.getD 0 = o := by rw [hro]; rfl
      rw [opcode_of_legacy_none (by rw [htable, hlegacy]; rfl) (by simpa using hno), hget] at hopcode
      rw [hopcode]
      exact ho
  · exact absurd hspace hne

/-- R212: a scan reads at least two bytes, and two only of `0F 77`. -/
theorem scanRegs_pos {order : RexOrder} {bt : Bitness} {w : List Byte} {r : Regs} (h : scanRegs order bt w = .ok r) :
    2 ≤ r.pos.val ∧ (r.pos.val = 2 → w[0]? = some 0x0F ∧ w[1]? = some 0x77) := by
  obtain ⟨r1, r2, hscan, hlookup, hend⟩ := scanRegs_ok order bt w r h
  obtain ⟨hone, hfirst⟩ := prefixScan_pos hscan
  have hlt := opcodeLookup_pos_lt hlookup
  obtain ⟨-, hmodrm⟩ | ⟨hneeds, rfl⟩ := hend
  · have := modrmState_pos_lt hmodrm
    exact ⟨by omega, fun h2 => by omega⟩
  · refine ⟨by omega, fun h2 => ?_⟩
    obtain ⟨hb0, hspace⟩ := hfirst (by omega)
    obtain ⟨h0F, h77⟩ := opcodeLookup_none hspace hlookup hneeds
    rw [h2] at h77
    exact ⟨hb0.symm.trans h0F, h77⟩

/-- R212: the first two bytes of a window. -/
theorem take_two_of_getElem? {w : List Byte} {a b : Byte} (ha : w[0]? = some a) (hb : w[1]? = some b) : w.take 2 = [a, b] := by
  match w with
  | [] => cases ha
  | [_] => cases hb
  | _ :: _ :: _ => cases ha; cases hb; rfl

/-- Settles O11: the length is the cursor of the scan, which reads two bytes only of `0F 77`; and these are the bytes of `Emms`. -/
theorem byteLengthIsBytesConsumed : Obligations.ByteLengthIsBytesConsumed := by
  refine ⟨fun s t insn hstep hres => ?_, fun s rest hwindow => ?_⟩
  · obtain ⟨-, hmax, hcursor, -⟩ := okRecordsAreSound s t insn hstep hres
    obtain ⟨i, r, hd, hlen⟩ := decode_of_step_ok hstep hres
    obtain ⟨hscan, -⟩ := (decode_eq_ok ..).mp hd
    obtain ⟨htwo, hshort⟩ := scanRegs_pos hscan
    obtain ⟨t', hstep', -, -, hoffset, -⟩ := stepEndsAndKeepsInputs s
    rw [hstep] at hstep'
    cases hstep'
    refine ⟨hcursor, hlen ▸ htwo, hmax, hlen ▸ decode_ok_pos_le hd, fun h2 => ?_, fun skip => ?_⟩
    · obtain ⟨h0F, h77⟩ := hshort (by rw [← hlen, h2]; rfl)
      exact take_two_of_getElem? h0F h77
    · rw [State.advance_ok skip t insn hres, hoffset]
  · obtain ⟨-, t, insn, hstep, hres, -, hlen⟩ :=
      encodedInstructionReportsItsLength (.Emms LegacyPrefix.none) s rest (by cases s.bitness <;> rfl)
        (by cases s.bitness <;> rfl) hwindow
    exact ⟨t, insn, hstep, hres, Fin.ext hlen⟩

end Sys2Proof.Machine
end

section
/-! The legacy instructions complete (spec/45_legacy_0f70_0f77.md R300 to R328): where no LOCK stands, a legacy row ends in the
record that its rule gives, with the slots of the row's shape. -/

namespace Sys2Proof.Machine

open Sys2Proof Sys2Proof.Spec

/-! ### The slots -/

/-- R194: a legacy register operand has one extension bit, and an MM register none. -/
theorem vectorReg_eq_legacyVec (cls : RegClass) (e : Bool) (v : BitVec 3) : vectorReg cls false e v = legacyVec cls e v := by
  have hindex : (BitVec.ofBool false ++ BitVec.ofBool e ++ v : BitVec 5) = BitVec.ofNat 5 (8 * e.toNat + v.toNat) := by
    simpa using foldedIndex false e v
  cases cls with
  | MM => simp [legacyVec, vec]
  | XMM => exact congrArg Register.xmm hindex
  | YMM => exact congrArg Register.ymm hindex
  | ZMM => exact congrArg Register.zmm hindex

section Slots
variable (m : OpMap) (p : LegacyPrefix) (reg : BitVec 3) (rm : RMOperand) (imm : Option Byte) (ib : Byte) (s : State)

/-- R104, R194: a legacy reg slot, with REX.R. -/
theorem fillSlot_reg_legacy (cls : RegClass) :
    fillSlot (piecesOf (legacyState m p) reg rm imm s) (.reg cls) = regOp (legacyVec cls (rexBit p 2) reg) := by
  rw [legacyState_eq]
  exact congrArg regOp (vectorReg_eq_legacyVec cls (rexBit p 2) reg)

/-- R104, R194, R214: a legacy rm slot, with REX.B where it is a register. -/
theorem fillSlot_rm_legacy (cls : RegClass) :
    fillSlot (piecesOf (legacyState m p) reg rm imm s) (.rm cls) = legacyRm cls p rm := by
  rw [legacyState_eq]
  cases rm with
  | reg v => exact congrArg regOp (vectorReg_eq_legacyVec cls (rexBit p 0) v)
  | mem mod v sib d => rfl

/-- R138: the slots of shape `R_RM`. -/
theorem slots_R_RM_legacy (cls : RegClass) :
    (Shape.R_RM.slots cls).map (fillSlot (piecesOf (legacyState m p) reg rm imm s)) =
      [regOp (legacyVec cls (rexBit p 2) reg), legacyRm cls p rm] := by
  simp only [Shape.slots, List.map_cons, List.map_nil, fillSlot_reg_legacy, fillSlot_rm_legacy]

/-- R138: the slots of shape `R_RM_IB`. -/
theorem slots_R_RM_IB_legacy (cls : RegClass) :
    (Shape.R_RM_IB.slots cls).map (fillSlot (piecesOf (legacyState m p) reg rm (some ib) s)) =
      [regOp (legacyVec cls (rexBit p 2) reg), legacyRm cls p rm, immOp ib] := by
  simp only [Shape.slots, List.map_cons, List.map_nil, fillSlot_reg_legacy, fillSlot_rm_legacy]
  rfl

/-- R138, R153: the slots of shape `RMreg_IB`. -/
theorem slots_RMreg_IB_legacy (cls : RegClass) (v : BitVec 3) :
    (Shape.RMreg_IB.slots cls).map (fillSlot (piecesOf (legacyState m p) reg (.reg v) (some ib) s)) =
      [regOp (legacyVec cls (rexBit p 0) v), immOp ib] := by
  simp only [Shape.slots, List.map_cons, List.map_nil, fillSlot_rm_legacy]
  rfl

end Slots

/-! ### The record -/

/-- R46, R211 to R216: the record of a legacy row before the memory descriptor; without LOCK no prefix flag is set. -/
theorem assembleBase_legacyState (f : Form) (m : OpMap) {p : LegacyPrefix} (reg : BitVec 3) (rm : RMOperand)
    (imm : Option Byte) (s : State) (hlock : p.lock = false) :
    assembleBase f (piecesOf (legacyState m p) reg rm imm s) =
      record f.code s.regs.pos p.seg (f.slots.map (fillSlot (piecesOf (legacyState m p) reg rm imm s))) := by
  obtain ⟨hrepe, hrepne⟩ := repFlags_of_legacyMp (legacyState m p) (by rw [legacyState_eq])
  have hlockFlag : hasLock (legacyState m p) = false := by rw [legacyState_eq]; exact hlock
  have hseg : segmentPrefix (legacyState m p) = p.seg := by rw [legacyState_eq]; rfl
  have hps : (piecesOf (legacyState m p) reg rm imm s).ps = legacyState m p := rfl
  unfold assembleBase record
  rw [hps, hrepe, hrepne, hlockFlag, hseg, List.length_map]
  rfl

/-- R32, R196, R197, R211 to R216: the record of a legacy row, with the memory descriptor where rm is memory. -/
theorem assemble_legacyState (f : Form) (m : OpMap) {p : LegacyPrefix} (reg : BitVec 3) (rm : RMOperand)
    (imm : Option Byte) (s : State) (hlock : p.lock = false) :
    assemble f (piecesOf (legacyState m p) reg rm imm s) =
      legacyRecord s f.code f.memsize p rm (f.slots.map (fillSlot (piecesOf (legacyState m p) reg rm imm s))) := by
  have hbase := assembleBase_legacyState f m reg rm imm s hlock
  cases rm with
  | reg v => rw [assemble_reg _ _ rfl, hbase]; rfl
  | mem mod v sib d =>
    rw [assemble_mem _ _ _ rfl, hbase, withMemory, memWork_as]
    simp only [legacyState_eq]
    rfl

/-! ### The meaning -/

/-- R133, R180, R210: a legacy instruction without LOCK ends in `Done` with the record of its row. -/
theorem exec_legacy {i : Instr} {s : State} {ops : List OpSlot} (h : (row i.code).space = .Legacy)
    (hlock : i.bundle.legacy.lock = false)
    (hops : ((row i.code).shape.slots (row i.code).cls).map (fillSlot (instrPieces i s)) = ops) :
    exec i s = completes s legacyVf
      (legacyRecord s i.code (row i.code).memsize i.bundle.legacy i.bundle.rm ops) := by
  have hpieces : instrPieces i s =
      piecesOf (legacyState (row i.code).map i.bundle.legacy) i.bundle.reg i.bundle.rm (instrImm i) s := by
    rw [instrPieces, instrState_legacy _ h]
  have hrecord := assemble_legacyState (tableForm i.code) (row i.code).map i.bundle.reg i.bundle.rm (instrImm i) s hlock
  rw [← hpieces] at hrecord
  rw [← hops]
  exact (exec_of_fields_ok (fun _ => hlock) (instrFields_legacy s h)).trans (congrArg (completes s legacyVf) hrecord)

/-! ### The obligations -/

/-- Settles O39: each row has shape `R_RM_IB`. -/
theorem legacyShufflesComplete : Obligations.LegacyShufflesComplete := by
  intro e he p reg rm ib s hlock
  have hops := slots_R_RM_IB_legacy .m0F p reg rm ib s
  fin_cases he <;> exact exec_legacy rfl hlock (hops _)

/-- Settles O40: each row has shape `RMreg_IB`, and an MM register ignores REX. -/
theorem legacyMmxShiftsComplete : Obligations.LegacyMmxShiftsComplete := by
  intro e he p rm ib s hlock
  have hops := slots_RMreg_IB_legacy .m0F p 0 ib s .MM rm
  fin_cases he <;> exact exec_legacy rfl hlock hops

/-- Settles O41: each row has shape `RMreg_IB`, and REX.B extends the XMM register. -/
theorem legacyXmmShiftsComplete : Obligations.LegacyXmmShiftsComplete := by
  intro e he p rm ib s hlock
  have hops := slots_RMreg_IB_legacy .m0F p 0 ib s .XMM rm
  fin_cases he <;> exact exec_legacy rfl hlock hops

/-- Settles O42: each row has shape `R_RM`. -/
theorem legacyComparesComplete : Obligations.LegacyComparesComplete := by
  intro e he p reg rm s hlock
  have hops := slots_R_RM_legacy .m0F p reg rm none s
  fin_cases he <;> exact exec_legacy rfl hlock (hops _)

/-- Settles O43: the row has no slots. -/
theorem emmsCompletes : Obligations.EmmsCompletes :=
  fun p _ hlock => exec_legacy (i := .Emms p) rfl hlock rfl

end Sys2Proof.Machine
end

section
/-! The VEX instructions complete (spec/46_vex_0f70_0f77.md R340 to R373): where the vvvv field is an operand of the row, or 0,
a VEX row ends in the record that its rule gives, with the slots of the row's shape. The rules of the registers and of the
record stand first, for every space. -/

namespace Sys2Proof.Machine

open Sys2Proof Sys2Proof.Spec

/-! ### Registers by number -/

/-- R194: a register operand by its number; an MM register keeps the three low bits of it. -/
theorem vectorReg_eq_vec (cls : RegClass) (hi lo : Bool) (v : BitVec 3) :
    vectorReg cls hi lo v = vec cls (16 * hi.toNat + 8 * lo.toNat + v.toNat) := by
  cases cls with
  | MM =>
    have hindex : v = BitVec.ofNat 3 (16 * hi.toNat + 8 * lo.toNat + v.toNat) := by revert hi lo v; decide
    exact congrArg Register.mm hindex
  | XMM => exact congrArg Register.xmm (foldedIndex hi lo v)
  | YMM => exact congrArg Register.ymm (foldedIndex hi lo v)
  | ZMM => exact congrArg Register.zmm (foldedIndex hi lo v)

/-- R188, R194: a vvvv operand by its number. -/
theorem vectorReg_vvvv_eq_vec (cls : RegClass) (hi : Bool) (v : BitVec 4) :
    vectorReg cls hi (v.getLsbD 3) (v.extractLsb' 0 3) = vec cls (16 * hi.toNat + v.toNat) := by
  have hnumber : 8 * (v.getLsbD 3).toNat + (v.extractLsb' 0 3).toNat = v.toNat := by revert v; decide
  rw [vectorReg_eq_vec, Nat.add_assoc, hnumber]

/-! ### The record of an instruction -/

/-- R46, R211 to R216: a record before the memory descriptor; without LOCK no prefix flag is set. -/
theorem assembleBase_eq_record (f : Form) {p : Pieces} {bt : Bitness} (hps : IsInstrState bt p.ps) (hlock : p.ps.lock = false) :
    assembleBase f p =
      { record f.code p.pos p.ps.seg (f.slots.map (fillSlot p)) with
        opMask := p.vf.opmask, zeroingMasking := p.vf.zeroing } := by
  obtain ⟨hrepe, hrepne⟩ := hps.repFlags
  unfold assembleBase record hasLock
  rw [hrepe, hrepne, hlock, List.length_map]
  rfl

/-- R32, R196, R197, R211 to R216: a record without rounding, with the memory descriptor where rm is memory. -/
theorem assemble_eq_withRm (f : Form) {ps : PrefixState} (reg : BitVec 3) (rm : RMOperand) (imm : Option Byte) {s : State}
    {vf : VectorFields} (hps : IsInstrState s.bitness ps) (hlock : ps.lock = false) (hrc : vf.rc = .None)
    (hsae : vf.sae = false) :
    assemble f { piecesOf ps reg rm imm s with vf := vf } =
      withRm s.bitness ps.adsize ps.X ps.B ps.seg vf.n (memorySizeOf f vf.bcst) rm
        { record f.code s.regs.pos ps.seg (f.slots.map (fillSlot (piecesOf ps reg rm imm s))) with
          opMask := vf.opmask, zeroingMasking := vf.zeroing } := by
  have hbase := assembleBase_eq_record f (p := { piecesOf ps reg rm imm s with vf := vf }) hps hlock
  cases rm with
  | reg v =>
    rw [assemble_reg _ _ rfl, hbase, hrc, hsae]
    rfl
  | mem mod v sib d =>
    rw [assemble_mem _ _ _ rfl, hbase, withMemory, memWork_as]
    rfl

/-! ### The slots of a VEX instruction -/

section Slots
variable (m : OpMap) (mp : Mp) (L : Bool) (p : VexPrefix) (reg : BitVec 3) (rm : RMOperand) (imm : Option Byte) (ib : Byte)
  (s : State)

/-- R117, R188: the masked vvvv field of a VEX instruction is the number of its register. -/
theorem maskedVvvv_toNat_eq_vexV (bt : Bitness) : (if bt = .b64 then p.vvvv else p.vvvv &&& 7).toNat = vexV bt p := by
  unfold vexV
  split
  · rfl
  · exact maskedVvvv p.vvvv

/-- R111, R112: an instruction's VEX space is that of the 2-byte or that of the 3-byte prefix. -/
theorem vexState_space (bt : Bitness) : (vexState bt m mp L p).space = .VEX2 ∨ (vexState bt m mp L p).space = .VEX3 := by
  rw [vexState_eq]
  cases p.three
  · exact .inl rfl
  · exact .inr rfl

/-- R194: the reg register of a VEX instruction. -/
theorem regOperand_vexState (bt : Bitness) (cls : RegClass) :
    regOperand cls (vexState bt m mp L p) reg = vec cls (vexReg bt p reg) := by
  have hvec := vectorReg_eq_vec cls false (in64 bt p.R) reg
  rw [Bool.toNat_false, Nat.mul_zero, Nat.zero_add] at hvec
  rw [vexState_eq]
  cases p.three <;> exact hvec

/-- R194: the rm register of a VEX instruction. -/
theorem rmOperandReg_vexState (bt : Bitness) (cls : RegClass) (v : BitVec 3) :
    rmOperandReg cls (vexState bt m mp L p) v = vec cls (vexRm bt p v) := by
  have hvec := vectorReg_eq_vec cls false (in64 bt p.B) v
  rw [Bool.toNat_false, Nat.mul_zero, Nat.zero_add] at hvec
  rw [vexState_eq]
  cases p.three <;> exact hvec

/-- R188, R194: the vvvv register of a VEX instruction. -/
theorem vvvvOperand_vexState (bt : Bitness) (cls : RegClass) :
    vvvvOperand cls (vexState bt m mp L p) = vec cls (vexV bt p) := by
  have hvec := vectorReg_vvvv_eq_vec cls false (if bt = .b64 then p.vvvv else p.vvvv &&& 7)
  rw [maskedVvvv_toNat_eq_vexV, Bool.toNat_false, Nat.mul_zero, Nat.zero_add] at hvec
  rw [vexState_eq]
  cases p.three <;> exact hvec

/-- R213, R214: a VEX reg slot. -/
theorem fillSlot_reg_vex (cls : RegClass) :
    fillSlot (piecesOf (vexState s.bitness m mp L p) reg rm imm s) (.reg cls) = regOp (vec cls (vexReg s.bitness p reg)) :=
  congrArg regOp (regOperand_vexState m mp L p reg s.bitness cls)

/-- R213, R214: a VEX vvvv slot. -/
theorem fillSlot_vvvv_vex (cls : RegClass) :
    fillSlot (piecesOf (vexState s.bitness m mp L p) reg rm imm s) (.vvvv cls) = regOp (vec cls (vexV s.bitness p)) :=
  congrArg regOp (vvvvOperand_vexState m mp L p s.bitness cls)

/-- R213, R214: a VEX rm slot. -/
theorem fillSlot_rm_vex (cls : RegClass) :
    fillSlot (piecesOf (vexState s.bitness m mp L p) reg rm imm s) (.rm cls) =
      rmOp cls (vexRm s.bitness p rm.field) rm := by
  cases rm with
  | reg v => exact congrArg regOp (rmOperandReg_vexState m mp L p s.bitness cls v)
  | mem mod v sib d => rfl

/-- R138: the slots of shape `R_RM_IB`. -/
theorem slots_R_RM_IB_vex (cls : RegClass) :
    (Shape.R_RM_IB.slots cls).map (fillSlot (piecesOf (vexState s.bitness m mp L p) reg rm (some ib) s)) =
      [regOp (vec cls (vexReg s.bitness p reg)), rmOp cls (vexRm s.bitness p rm.field) rm, immOp ib] := by
  simp only [Shape.slots, List.map_cons, List.map_nil, fillSlot_reg_vex, fillSlot_rm_vex]
  rfl

/-- R138, R153: the slots of shape `V_RMreg_IB`. -/
theorem slots_V_RMreg_IB_vex (cls : RegClass) (v : BitVec 3) :
    (Shape.V_RMreg_IB.slots cls).map (fillSlot (piecesOf (vexState s.bitness m mp L p) reg (.reg v) (some ib) s)) =
      [regOp (vec cls (vexV s.bitness p)), regOp (vec cls (vexRm s.bitness p v)), immOp ib] := by
  simp only [Shape.slots, List.map_cons, List.map_nil, fillSlot_vvvv_vex, fillSlot_rm_vex]
  rfl

/-- R138: the slots of shape `R_V_RM`. -/
theorem slots_R_V_RM_vex (cls : RegClass) :
    (Shape.R_V_RM.slots cls).map (fillSlot (piecesOf (vexState s.bitness m mp L p) reg rm imm s)) =
      [regOp (vec cls (vexReg s.bitness p reg)), regOp (vec cls (vexV s.bitness p)),
        rmOp cls (vexRm s.bitness p rm.field) rm] := by
  simp only [Shape.slots, List.map_cons, List.map_nil, fillSlot_reg_vex, fillSlot_vvvv_vex, fillSlot_rm_vex]

end Slots

/-! ### The meaning of a VEX instruction -/

/-- R181, R189, R190: `VectorFieldDecode` of a VEX instruction whose vvvv field is an operand of its row, or 0, gives the
row's vector length. -/
theorem instrFields_vex_ok {i : Instr} (s : State) (h : (row i.code).space = .VEX)
    (hvvvv : (tableForm i.code).usesVvvv = true ∨ i.bundle.vex.vvvv = 0) :
    instrFields i s = .ok (vexVf (row i.code).vl) := by
  have hstate := instrState_vex s.bitness h
  have hspace := vexState_space (row i.code).map (row i.code).mp (decide ((row i.code).vl = 256)) i.bundle.vex s.bitness
  have hraw : (instrState s.bitness i).vvvvRaw = i.bundle.vex.vvvv := by rw [hstate, vexState_eq]
  have hL : (instrState s.bitness i).L = decide ((row i.code).vl = 256) := by rw [hstate, vexState_eq]
  have hvl : (if decide ((row i.code).vl = 256) = true then 256 else 128) = (row i.code).vl := by
    obtain ⟨-, hlen | hlen, -⟩ := row_vex _ h <;> rw [hlen] <;> rfl
  have hcheck : ¬ (!(tableForm i.code).usesVvvv && decide (i.bundle.vex.vvvv ≠ 0)) = true := by
    obtain hused | hzero := hvvvv
    · rw [hused]; exact Bool.false_ne_true
    · simp [hzero]
  have hfields := vectorFieldDecode_vex (tableForm i.code) _ (instrPieces i s).md.isNone
    (isDisp8 (instrPieces i s).md (instrPieces i s).dispSize) (hstate ▸ hspace)
  rw [hraw, hL, hvl, if_neg hcheck] at hfields
  exact hfields

/-- R199, R210: a VEX instruction whose vvvv field is an operand of its row, or 0, ends in `Done` with the record of its
row. -/
theorem exec_vex {i : Instr} {s : State} {ops : List OpSlot} (h : (row i.code).space = .VEX)
    (hvvvv : (tableForm i.code).usesVvvv = true ∨ i.bundle.vex.vvvv = 0)
    (hops : ((row i.code).shape.slots (row i.code).cls).map (fillSlot (instrPieces i s)) = ops) :
    exec i s = completes s (vexVf (row i.code).vl)
      (vexRecord s i.code (row i.code).memsize i.bundle.vex i.bundle.rm ops) := by
  have hlegacy : (row i.code).space ≠ .Legacy := h ▸ nofun
  have hstate := instrState_vex s.bitness h
  have hrecord := assemble_eq_withRm (tableForm i.code) i.bundle.reg i.bundle.rm (instrImm i)
    (vf := vexVf (row i.code).vl) (.inr (.inl ⟨_, _, _, _, hstate⟩)) (by rw [hstate, vexState_eq]; rfl) rfl rfl
  rw [← hops, exec_of_fields_ok (absurd · hlegacy) (instrFields_vex_ok s h hvvvv)]
  refine congrArg (completes s _) (hrecord.trans ?_)
  rw [instrPieces, hstate, vexState_eq]
  rfl

/-! ### The obligations -/

/-- Settles O44: each row has shape `R_RM_IB`, and does not use vvvv. -/
theorem vexShufflesComplete : Obligations.VexShufflesComplete := by
  intro e he p reg rm ib s hvvvv
  have hops := fun mp L => slots_R_RM_IB_vex .m0F mp L p reg rm ib s
  fin_cases he <;> exact exec_vex rfl (.inr hvvvv) (hops _ _ _)

/-- Settles O45: each row has shape `V_RMreg_IB`, which uses vvvv. -/
theorem vexShiftsComplete : Obligations.VexShiftsComplete := by
  intro e he p rm ib s
  have hops := fun L cls => slots_V_RMreg_IB_vex .m0F .P66 L p 0 ib s cls rm
  fin_cases he <;> exact exec_vex rfl (.inl rfl) (hops _ _)

/-- Settles O46: each row has shape `R_V_RM`, which uses vvvv. -/
theorem vexComparesComplete : Obligations.VexComparesComplete := by
  intro e he p reg rm s
  have hops := fun L => slots_R_V_RM_vex .m0F .P66 L p reg rm none s
  fin_cases he <;> exact exec_vex rfl (.inl rfl) (hops _ _)

/-- Settles O47: the rows have no slots, and do not use vvvv. -/
theorem vexZerosComplete : Obligations.VexZerosComplete := by
  intro e he p s hvvvv
  fin_cases he <;> exact exec_vex rfl (.inr hvvvv) rfl

end Sys2Proof.Machine
end

section
/-! The EVEX shuffles, word shifts and rotates complete (spec/47_evex_0f70_0f72rot.md R380 to R409): where the fields are legal,
an EVEX row ends in the record that its rule gives, with the slots of the row's shape. The rules of the slots, of `vf` and of
the record stand first, for every EVEX row. -/

namespace Sys2Proof.Machine

open Sys2Proof Sys2Proof.Spec

/-! ### The slots of an EVEX instruction -/

section Slots
variable (m : OpMap) (mp : Mp) (ll : BitVec 2) (p : EvexPrefix) (reg : BitVec 3) (rm : RMOperand) (imm : Option Byte)
  (ib : Byte) (s : State)

/-- R117, R188: V' and the masked vvvv field of an EVEX instruction make the number of its register. -/
theorem maskedVvvv_toNat_eq_evexV (bt : Bitness) :
    16 * (in64 bt p.Vp).toNat + (if bt = .b64 then p.vvvv else p.vvvv &&& 7).toNat = evexV bt p := by
  unfold evexV in64
  by_cases h : bt = .b64
  · simp only [h, decide_true, Bool.true_and, if_true]
  · simp only [h, decide_false, Bool.false_and, if_false, Bool.toNat_false, maskedVvvv, Nat.mul_zero, Nat.zero_add]

/-- R194: the reg register of an EVEX instruction. -/
theorem regOperand_evexPrefixState (bt : Bitness) (cls : RegClass) :
    regOperand cls (evexPrefixState bt m mp ll p) reg = vec cls (evexReg bt p reg) := by
  rw [evexPrefixState_eq]
  exact vectorReg_eq_vec cls (in64 bt p.Rp) (in64 bt p.R) reg

/-- R194: the rm register of an EVEX instruction. -/
theorem rmOperandReg_evexPrefixState (bt : Bitness) (cls : RegClass) (v : BitVec 3) :
    rmOperandReg cls (evexPrefixState bt m mp ll p) v = vec cls (evexRm bt p v) := by
  rw [evexPrefixState_eq]
  exact vectorReg_eq_vec cls (in64 bt p.X) (in64 bt p.B) v

/-- R188, R194: the vvvv register of an EVEX instruction. -/
theorem vvvvOperand_evexPrefixState (bt : Bitness) (cls : RegClass) :
    vvvvOperand cls (evexPrefixState bt m mp ll p) = vec cls (evexV bt p) := by
  rw [evexPrefixState_eq, ← maskedVvvv_toNat_eq_evexV]
  exact vectorReg_vvvv_eq_vec cls (in64 bt p.Vp) (if bt = .b64 then p.vvvv else p.vvvv &&& 7)

/-- R213, R214: an EVEX reg slot. -/
theorem fillSlot_reg_evex (cls : RegClass) :
    fillSlot (piecesOf (evexPrefixState s.bitness m mp ll p) reg rm imm s) (.reg cls) =
      regOp (vec cls (evexReg s.bitness p reg)) :=
  congrArg regOp (regOperand_evexPrefixState m mp ll p reg s.bitness cls)

/-- R213, R214: an EVEX vvvv slot. -/
theorem fillSlot_vvvv_evex (cls : RegClass) :
    fillSlot (piecesOf (evexPrefixState s.bitness m mp ll p) reg rm imm s) (.vvvv cls) =
      regOp (vec cls (evexV s.bitness p)) :=
  congrArg regOp (vvvvOperand_evexPrefixState m mp ll p s.bitness cls)

/-- R213, R214: an EVEX rm slot. -/
theorem fillSlot_rm_evex (cls : RegClass) :
    fillSlot (piecesOf (evexPrefixState s.bitness m mp ll p) reg rm imm s) (.rm cls) =
      rmOp cls (evexRm s.bitness p rm.field) rm := by
  cases rm with
  | reg v => exact congrArg regOp (rmOperandReg_evexPrefixState m mp ll p s.bitness cls v)
  | mem mod v sib d => rfl

/-- R138: the slots of shape `R_RM_IB`. -/
theorem slots_R_RM_IB_evex (cls : RegClass) :
    (Shape.R_RM_IB.slots cls).map (fillSlot (piecesOf (evexPrefixState s.bitness m mp ll p) reg rm (some ib) s)) =
      [regOp (vec cls (evexReg s.bitness p reg)), rmOp cls (evexRm s.bitness p rm.field) rm, immOp ib] := by
  simp only [Shape.slots, List.map_cons, List.map_nil, fillSlot_reg_evex, fillSlot_rm_evex]
  rfl

/-- R138: the slots of shape `V_RM_IB`. -/
theorem slots_V_RM_IB_evex (cls : RegClass) :
    (Shape.V_RM_IB.slots cls).map (fillSlot (piecesOf (evexPrefixState s.bitness m mp ll p) reg rm (some ib) s)) =
      [regOp (vec cls (evexV s.bitness p)), rmOp cls (evexRm s.bitness p rm.field) rm, immOp ib] := by
  simp only [Shape.slots, List.map_cons, List.map_nil, fillSlot_vvvv_evex, fillSlot_rm_evex]
  rfl

end Slots

/-! ### The vector fields of an EVEX instruction -/

/-- R183: the vector length of an EVEX row is that of its L'L. -/
theorem shift_llOf {c : Code} (h : (row c).space = .EVEX) : 128 <<< (llOf (row c).vl).toNat = (row c).vl := by
  obtain ⟨-, hvl | hvl | hvl⟩ := row_evex c h <;> rw [hvl] <;> rfl

/-- R197: the memory size that a form reports. -/
theorem memorySizeOf_eq_sizeOf (f : Form) (b : Bool) : memorySizeOf f b = sizeOf f.memsize f.bcst b := by
  unfold memorySizeOf
  cases b <;> cases f.bcst <;> rfl

/-- R184, R187: where b is legal, b = 1 is a broadcast. -/
theorem isBcst_eq_b {bc : Option (MemorySize × Nat)} {p : EvexPrefix} {rm : RMOperand} (h : broadcastOk bc p rm) :
    (!rm.isReg && p.b) = p.b := by
  cases hb : p.b with
  | false => exact Bool.and_false _
  | true => rw [(h hb).1]; rfl

/-- R195: the factor of a 1-byte displacement, where b is legal. -/
theorem dispFactor_eq {bc : Option (MemorySize × Nat)} {p : EvexPrefix} {rm : RMOperand} (h : broadcastOk bc p rm) (vl : Nat) :
    dispFactor bc p.b vl = if p.b then elemOf bc else vl / 8 := by
  cases hb : p.b with
  | false => rfl
  | true =>
    cases bc with
    | none => exact absurd rfl (h hb).2
    | some e => rfl

/-- R195: the displacement factor of an rm operand, where b is legal. -/
theorem dispFactor_eq_factor {bc : Option (MemorySize × Nat)} {p : EvexPrefix} {rm : RMOperand} (h : broadcastOk bc p rm)
    (vl : Nat) (bt : Bitness) (ps : PrefixState) :
    (if isDisp8 (rmWork bt ps rm) (dispSize (rmDisp rm)) then dispFactor bc p.b vl else 1) = factor vl (elemOf bc) p.b rm := by
  cases rm with
  | reg v => rfl
  | mem mod v sib d =>
    cases d with
    | d8 x => exact dispFactor_eq h vl
    | none | d16 x | d32 x => rfl

/-- R184, R187: the two ways to say that b is legal. -/
theorem broadcastOk_iff {bc : Option (MemorySize × Nat)} {p : EvexPrefix} {rm : RMOperand} :
    broadcastOk bc p rm ↔ p.b = false ∨ (rm.isReg = false ∧ bc.isSome = true) := by
  rw [broadcastOk, Option.isSome_iff_ne_none, imp_iff_not_or, Bool.not_eq_true]

/-- R191: of a row with zeroing and merging masking, z = 1 without an opmask is the one illegal masking. -/
theorem EvexPrefix.maskLegal_k1z_iff (p : EvexPrefix) : p.maskLegal .k1z = true ↔ zeroingOk p := by
  rw [EvexPrefix.maskLegal, zeroingOk, Bool.or_eq_true, Bool.not_eq_true', decide_eq_true_eq, imp_iff_not_or, Bool.not_eq_true]

/-- R183, R190, R191, R195: `VectorFieldDecode` of a legal EVEX instruction gives the fields of its row. -/
theorem instrFields_evex_ok {i : Instr} (s : State) (h : (row i.code).space = .EVEX) (hlegal : i.legal s.bitness = true) :
    instrFields i s = .ok (evexVf (row i.code).vl (row i.code).bcst i.bundle.evex i.bundle.rm) := by
  obtain ⟨-, -, hb, -⟩ := (Instr.legal_evex h).mp hlegal
  have hbcst := broadcastOk_iff.mpr hb
  have hstate := instrState_evex s.bitness h
  have hfields := vectorFieldDecode_evex (tableForm i.code) (instrState s.bitness i) i.bundle.rm.isReg
    (isDisp8 (instrPieces i s).md (instrPieces i s).dispSize) (by rw [hstate, evexPrefixState_eq]) (tableForm_rounding _)
  have hLL : (instrState s.bitness i).LL = llOf (row i.code).vl := by rw [hstate, evexPrefixState_eq]
  have hbit : (instrState s.bitness i).b = i.bundle.evex.b := by rw [hstate, evexPrefixState_eq]
  have haaa : (instrState s.bitness i).aaa = i.bundle.evex.aaa := by rw [hstate, evexPrefixState_eq]
  have hz : (instrState s.bitness i).z = i.bundle.evex.z := by rw [hstate, evexPrefixState_eq]
  have hfactor := dispFactor_eq_factor hbcst (row i.code).vl s.bitness (instrState s.bitness i)
  rw [hLL, hbit, haaa, hz, decide_eq_false (llOf_ne_three _), Bool.or_false, evexChecks_eq_not_legal _ h, hlegal, Bool.not_true,
    if_neg Bool.false_ne_true, isBcst_eq_b hbcst, shift_llOf h] at hfields
  rw [instrFields, instrPieces_md_isNone]
  refine hfields.trans ?_
  rw [evexVf, ← hfactor]
  rfl

/-! ### The meaning of an EVEX instruction -/

/-- R199, R210: a legal EVEX instruction ends in `Done` with the record of its row. -/
theorem exec_evex {i : Instr} {s : State} {ops : List OpSlot} (h : (row i.code).space = .EVEX)
    (hlegal : i.legal s.bitness = true)
    (hops : ((row i.code).shape.slots (row i.code).cls).map (fillSlot (instrPieces i s)) = ops) :
    exec i s = completes s (evexVf (row i.code).vl (row i.code).bcst i.bundle.evex i.bundle.rm)
      (evexRecord s i.code (row i.code).vl (row i.code).memsize (row i.code).bcst i.bundle.evex i.bundle.rm ops) := by
  have hlegacy : (row i.code).space ≠ .Legacy := h ▸ nofun
  have hstate := instrState_evex s.bitness h
  have hrecord := assemble_eq_withRm (tableForm i.code) i.bundle.reg i.bundle.rm (instrImm i)
    (vf := evexVf (row i.code).vl (row i.code).bcst i.bundle.evex i.bundle.rm) (.inr (.inr ⟨_, _, _, _, hstate⟩))
    (by rw [hstate, evexPrefixState_eq]; rfl) rfl rfl
  rw [memorySizeOf_eq_sizeOf] at hrecord
  rw [← hops, exec_of_fields_ok (absurd · hlegacy) (instrFields_evex_ok s h hlegal)]
  refine congrArg (completes s _) (hrecord.trans ?_)
  rw [instrPieces, hstate, evexPrefixState_eq]
  rfl

/-- R192, R193: a row with zeroing and merging masking does not write a K register. -/
theorem shape_of_k1z {c : Code} : (row c).mask = .k1z → (row c).shape ≠ .K_V_RM := by
  cases c <;> decide

/-- R187, R189, R191: legality of a row with zeroing and merging masking, from its fields. -/
theorem Instr.legal_of_k1z (bt : Bitness) {i : Instr} (h : (row i.code).space = .EVEX) (hmask : (row i.code).mask = .k1z)
    (hvvvv : (tableForm i.code).usesVvvv = true ∨ (i.bundle.evex.vvvv = 0 ∧ i.bundle.evex.Vp = false))
    (hz : zeroingOk i.bundle.evex) (hbcst : broadcastOk (row i.code).bcst i.bundle.evex i.bundle.rm) : i.legal bt = true := by
  have hmaskLegal : i.bundle.evex.maskLegal (row i.code).mask = true :=
    hmask ▸ (EvexPrefix.maskLegal_k1z_iff _).mpr hz
  exact (Instr.legal_evex h).mpr
    ⟨(Instr.vvvvLegal_evex h).mpr hvvvv, hmaskLegal, broadcastOk_iff.mp hbcst, .inl (shape_of_k1z hmask)⟩

/-! ### The obligations -/

/-- Settles O48: each row has shape `R_RM_IB`, and does not use vvvv. -/
theorem evexShufflesComplete : Obligations.EvexShufflesComplete := by
  intro e he p reg rm ib s hvvvv hVp hz hbcst
  have hops := fun mp ll => slots_R_RM_IB_evex .m0F mp ll p reg rm ib s
  fin_cases he <;>
    exact exec_evex rfl (Instr.legal_of_k1z _ rfl rfl (.inr ⟨hvvvv, hVp⟩) hz hbcst) (hops _ _ _)

/-- Settles O49: each row has shape `V_RM_IB`, which uses vvvv, and no broadcast. -/
theorem evexWordShiftsComplete : Obligations.EvexWordShiftsComplete := by
  intro e he p rm ib s hz hbcst
  have hops := fun ll => slots_V_RM_IB_evex .m0F .P66 ll p 0 rm ib s
  fin_cases he <;> exact exec_evex rfl (Instr.legal_of_k1z _ rfl rfl (.inl rfl) hz hbcst) (hops _ _)

/-- Settles O50: each row has shape `V_RM_IB`, which uses vvvv, and a broadcast. -/
theorem evexRotatesComplete : Obligations.EvexRotatesComplete := by
  intro e he p rm ib s hz hbcst
  have hops := fun ll => slots_V_RM_IB_evex .m0F .P66 ll p 0 rm ib s
  fin_cases he <;> exact exec_evex rfl (Instr.legal_of_k1z _ rfl rfl (.inl rfl) hz hbcst) (hops _ _)

end Sys2Proof.Machine
end

section
/-! The EVEX element and byte shifts complete (spec/48_evex_0f72sh_0f73.md R410 to R433): where the fields are legal, the row
ends in the record that its rule gives, with the slots of shape `V_RM_IB`. The byte shifts have no masking. -/

namespace Sys2Proof.Machine

open Sys2Proof Sys2Proof.Spec

/-! ### Legality of a row that uses vvvv -/

/-- R192: of a row without masking, no opmask and z = 0 is the one legal masking. -/
theorem EvexPrefix.maskLegal_none_iff (p : EvexPrefix) : p.maskLegal .none = true ↔ p.aaa = 0 ∧ p.z = false := by
  rw [EvexPrefix.maskLegal, Bool.and_eq_true, decide_eq_true_eq, Bool.not_eq_true']

/-- R187, R189, R191 to R193: legality of a row that uses vvvv, from its other fields. -/
theorem Instr.legal_of_usesVvvv {bt : Bitness} {i : Instr} (h : (row i.code).space = .EVEX)
    (hvvvv : (tableForm i.code).usesVvvv = true) (hmask : i.bundle.evex.maskLegal (row i.code).mask = true)
    (hbcst : broadcastOk (row i.code).bcst i.bundle.evex i.bundle.rm)
    (hkdest : (row i.code).shape ≠ .K_V_RM ∨ bt ≠ .b64 ∨ (i.bundle.evex.R = false ∧ i.bundle.evex.Rp = false)) :
    i.legal bt = true :=
  (Instr.legal_evex h).mpr ⟨(Instr.vvvvLegal_evex h).mpr (.inl hvvvv), hmask, broadcastOk_iff.mp hbcst, hkdest⟩

/-! ### The obligations -/

/-- Settles O51: each row has shape `V_RM_IB`, which uses vvvv, and a broadcast. -/
theorem evexElementShiftsComplete : Obligations.EvexElementShiftsComplete := by
  intro e he p rm ib s hz hbcst
  have hops := fun ll => slots_V_RM_IB_evex .m0F .P66 ll p 0 rm ib s
  fin_cases he <;> exact exec_evex rfl (Instr.legal_of_k1z _ rfl rfl (.inl rfl) hz hbcst) (hops _ _)

/-- Settles O52: each row has shape `V_RM_IB`, which uses vvvv, and neither masking nor broadcast. -/
theorem evexByteShiftsComplete : Obligations.EvexByteShiftsComplete := by
  intro e he p rm ib s haaa hz hbcst
  have hmask := (EvexPrefix.maskLegal_none_iff p).mpr ⟨haaa, hz⟩
  have hops := fun ll => slots_V_RM_IB_evex .m0F .P66 ll p 0 rm ib s
  fin_cases he <;> exact exec_evex rfl (Instr.legal_of_usesVvvv rfl rfl hmask hbcst (.inl nofun)) (hops _ _)

end Sys2Proof.Machine
end

section
/-! The EVEX compares and concatenating shifts complete (spec/49_evex_0f74_0f76_0f3a70_0f3a73.md R440 to R466): where the fields
are legal, a compare ends in the record of its K destination, and a concatenating shift in the record of its four slots. -/

namespace Sys2Proof.Machine

open Sys2Proof Sys2Proof.Spec

/-! ### The slots -/

section Slots
variable (m : OpMap) (mp : Mp) (ll : BitVec 2) (p : EvexPrefix) (reg : BitVec 3) (rm : RMOperand) (imm : Option Byte)
  (ib : Byte) (s : State)

/-- R138, R193: the slots of shape `K_V_RM`; ModRM.reg alone numbers the K register. -/
theorem slots_K_V_RM_evex (cls : RegClass) :
    (Shape.K_V_RM.slots cls).map (fillSlot (piecesOf (evexPrefixState s.bitness m mp ll p) reg rm imm s)) =
      [regOp (.k reg), regOp (vec cls (evexV s.bitness p)), rmOp cls (evexRm s.bitness p rm.field) rm] := by
  simp only [Shape.slots, List.map_cons, List.map_nil, fillSlot_vvvv_evex, fillSlot_rm_evex]
  rfl

/-- R138: the slots of shape `R_V_RM_IB`. -/
theorem slots_R_V_RM_IB_evex (cls : RegClass) :
    (Shape.R_V_RM_IB.slots cls).map (fillSlot (piecesOf (evexPrefixState s.bitness m mp ll p) reg rm (some ib) s)) =
      [regOp (vec cls (evexReg s.bitness p reg)), regOp (vec cls (evexV s.bitness p)),
        rmOp cls (evexRm s.bitness p rm.field) rm, immOp ib] := by
  simp only [Shape.slots, List.map_cons, List.map_nil, fillSlot_reg_evex, fillSlot_vvvv_evex, fillSlot_rm_evex]
  rfl

end Slots

/-! ### Legality of a compare -/

/-- R191: of a row with merging masking alone, z = 0 is the one legal masking. -/
theorem EvexPrefix.maskLegal_k1_iff (p : EvexPrefix) : p.maskLegal .k1 = true ↔ p.z = false := by
  rw [EvexPrefix.maskLegal, Bool.not_eq_true']

/-- R117: a bit that counts in 64-bit bitness only is 0 outside it. -/
theorem in64_eq_false_iff (bt : Bitness) (b : Bool) : in64 bt b = false ↔ bt ≠ .b64 ∨ b = false := by
  rw [in64, Bool.and_eq_false_iff, decide_eq_false_iff_not]

/-- R117, R193: R and R' are legal for a K destination where both are 0 after the masking. -/
theorem kDestOk_of_in64 {bt : Bitness} {p : EvexPrefix} (hR : in64 bt p.R = false) (hRp : in64 bt p.Rp = false) :
    bt ≠ .b64 ∨ (p.R = false ∧ p.Rp = false) :=
  or_and_left.mpr ⟨(in64_eq_false_iff bt p.R).mp hR, (in64_eq_false_iff bt p.Rp).mp hRp⟩

/-! ### The obligations -/

/-- Settles O53: each row has shape `K_V_RM`, which uses vvvv, and merging masking alone. -/
theorem evexComparesComplete : Obligations.EvexComparesComplete := by
  intro e he p reg rm s hz hR hRp hbcst
  have hmask := (EvexPrefix.maskLegal_k1_iff p).mpr hz
  have hkdest := kDestOk_of_in64 hR hRp
  have hops := fun ll => slots_K_V_RM_evex .m0F .P66 ll p reg rm none s
  fin_cases he <;> exact exec_evex rfl (Instr.legal_of_usesVvvv rfl rfl hmask hbcst (.inr hkdest)) (hops _ _)

/-- Settles O54: each row has shape `R_V_RM_IB`, which uses vvvv, in map 0F3A. -/
theorem evexConcatShiftsComplete : Obligations.EvexConcatShiftsComplete := by
  intro e he p reg rm ib s hz hbcst
  have hops := fun ll => slots_R_V_RM_IB_evex .m0F3A .P66 ll p reg rm ib s
  fin_cases he <;> exact exec_evex rfl (Instr.legal_of_k1z _ rfl rfl (.inl rfl) hz hbcst) (hops _ _)

end Sys2Proof.Machine
end
